-- ==== Sys2Proof/Word.lean ====
section
/-! DEFINITION. The word types of the block: bytes, 16-bit frames, 32-bit command words. -/

namespace Sys2Proof

/-- One byte of a frame (spec/00_scope.md R13). -/
abbrev Byte := BitVec 8

/-- A 16-bit ADC24 frame, or the 16-bit RAW code (R58, R25). -/
abbrev Half := BitVec 16

/-- A 32-bit command word, RESULT or MV (R11, R81). -/
abbrev Word := BitVec 32

end Sys2Proof
end

