-- ==== Sys2Proof/Config.lean ====
section
/-! DEFINITION. The parameters of spec/00_scope.md R8 to R11 (the record Cfg), the shapes of a Transport
exchange and its answer, and the one free value of the model: the oracle's answer past the end of the
answers that State lists. -/

namespace Sys2Proof

/-- The strap FAMILY (R8, R28): 0 = ADC20, 1 = ADC24. -/
inductive Family where
  | adc20
  | adc24
  deriving DecidableEq, Repr

/-- The resolution tag RES (R25): 0 = 12-bit, 1 = 16-bit. -/
inductive Resolution where
  | bits12
  | bits16
  deriving DecidableEq, Repr

/-- The strap CW_SHIFT, one of 0 and 4 (R10, R102). -/
inductive CwShift where
  | none0
  | left4
  deriving DecidableEq, Repr

/-- The parameters that the source names but gives no number for (R10), in the order of its table. -/
structure Cfg where
  writeCmd : Byte
  readCmd : Byte
  dummy : Byte
  regDataCfg : Byte
  regPinCfg : Byte
  regOpmode : Byte
  regOsr : Byte
  regChannelSel : Byte
  regAutoSeqChSel : Byte
  regSeqMode : Byte
  valDataCfgChid : Byte
  valDataCfgNochid : Byte
  valPinAllAnalog : Byte
  valOpmodeDefault : Byte
  valSeqStart : Byte
  valSeqStop : Byte
  baseManual : BitVec 12
  baseSeq : BitVec 12
  cwShift : CwShift
  readTx : Half
  vrangeMv20 : Nat
  vrangeMv24 : Nat
  /-- "unspecified; no rule depends on it" (R10, 93 U15). -/
  tSettle : Nat
  deriving DecidableEq, Repr

/-- The seven ADC20 register addresses (R10, R36). -/
def Cfg.regAddresses (c : Cfg) : List Byte :=
  [c.regDataCfg, c.regPinCfg, c.regOpmode, c.regOsr, c.regChannelSel, c.regAutoSeqChSel, c.regSeqMode]

/-- The constraints of R10 on the parameters. -/
def Cfg.ok (c : Cfg) : Bool :=
  decide (c.writeCmd ≠ c.readCmd) && decide c.regAddresses.Nodup
    && decide (c.baseManual &&& 0x3C0#12 = 0#12) && decide (c.baseSeq &&& 0x3C0#12 = 0#12)
    && decide (0 < c.vrangeMv20) && decide (c.vrangeMv20 ≤ 100000000)
    && decide (0 < c.vrangeMv24) && decide (c.vrangeMv24 ≤ 100000000)

/-- The default column of R10. PRESUMED (the spec marks it "from general knowledge, not in source", its
CW_SHIFT and VRANGE rows as decisions): unsafe as a fact about a chip; see notes/assumptions/4.md. -/
def Cfg.suggested : Cfg where
  writeCmd := 0x08
  readCmd := 0x10
  dummy := 0x00
  regDataCfg := 0x02
  regPinCfg := 0x05
  regOpmode := 0x04
  regOsr := 0x03
  regChannelSel := 0x11
  regAutoSeqChSel := 0x12
  regSeqMode := 0x10
  valDataCfgChid := 0x10
  valDataCfgNochid := 0x00
  valPinAllAnalog := 0x00
  valOpmodeDefault := 0x00
  valSeqStart := 0x11
  valSeqStop := 0x00
  baseManual := 0x830
  baseSeq := 0xC38
  cwShift := .left4
  readTx := 0x0000
  vrangeMv20 := 3300
  vrangeMv24 := 2500
  tSettle := 0

/-- What the oracle answers to one exchange (R50): received bytes or a failure. -/
inductive Answer where
  | fail
  | ok (rx : List Byte)
  deriving DecidableEq, Repr, Inhabited

/-- One event of the trace T (R16): what was transmitted, whether chip-select was held, and the received
bytes, or none for FAIL. -/
structure Event where
  tx : List Byte
  hold : Bool
  rx : Option (List Byte)
  deriving DecidableEq, Repr

/-- The free value of the model: what the oracle answers to an exchange (its transmitted bytes and its hold
bit) after the trace so far, where State lists no answer. R54: "The oracle is unconstrained". It has no body,
so nothing can be proved of it. DESIGN CHOICE, safe: notes/assumptions/3.md. -/
opaque Config.freeAnswer : List Event → List Byte → Bool → Answer

end Sys2Proof
end

