-- ==== Sys2Proof/Syntax.lean ====
section
/-! DEFINITION. The instructions: one constructor per row of spec/opcode_table.json (36 rows). -/

namespace Sys2Proof

/-- The rows of spec/opcode_table.json. Operands hold the unsigned value of their field (R83); a field wider
than the legal range keeps its whole width (R82, R87). -/
inductive Instr where
  -- command rows (30_encoding.md R84)
  | init20 (chid : Bool)
  | init24
  | setavg (ratio : Byte)
  | sman20 (ch : Byte)
  | sman24 (ch : Byte)
  | sseq20 (stop : Byte) (count : Byte)
  | sseq24 (stop : Byte) (count : Byte)
  | wreg (addr : Byte) (value : Byte)
  | rreg (addr : Byte)
  | wctl (word12 : BitVec 12)
  | tomv (res : Resolution) (code16 : Half)
  | chkid (expected : Byte) (nib : BitVec 4)
  -- reserved opcodes, with their 28 other bits (R85, R86)
  | illegalOpc0 (rest : BitVec 28)
  | illegalOpcA (rest : BitVec 28)
  | illegalOpcB (rest : BitVec 28)
  | illegalOpcC (rest : BitVec 28)
  | illegalOpcD (rest : BitVec 28)
  | illegalOpcE (rest : BitVec 28)
  | illegalOpcF (rest : BitVec 28)
  -- pseudo rows: no encoding of their own (R92)
  | readraw (addr : Byte)
  | modecfgRatio (ratio : Byte)
  | modecfgWord12 (word12 : BitVec 12)
  | sseqStop (stop : Byte)
  -- wire-frame rows (R95 to R104)
  | w20 (addr : Byte) (value : Byte)
  | r20a (addr : Byte)
  | r20b
  | f20
  | f20Rx12 (code : BitVec 12) (nib : BitVec 4) (ignored : Byte)
  | f20Rx16 (code : Half) (nib : BitVec 4) (ignored : BitVec 4)
  | c24 (cw12 : BitVec 12)
  | cw12Manual (ch : BitVec 4)
  | cw12Seq (stop : BitVec 4)
  | p24
  | f24
  | f24Rx (ignored : BitVec 4) (code : BitVec 12)
  | mask20 (stop : BitVec 3)
  deriving DecidableEq, Repr

/-- The thirteen wire-frame rows, by name. -/
inductive Shape where
  | w20
  | r20a
  | r20b
  | f20
  | f20Rx12
  | f20Rx16
  | c24
  | cw12Manual
  | cw12Seq
  | p24
  | f24
  | f24Rx
  | mask20
  deriving DecidableEq, Repr

/-- What encodes an instruction: a 32-bit command word (R81), or the bits of a wire-frame row, right-aligned,
its first byte most significant (R58). -/
inductive Code where
  | word (w : Word)
  | wire (shape : Shape) (bits : BitVec 24)
  deriving DecidableEq, Repr

/-- What stands at the input of the block (R12, R80, R240): a code to run, or reset. A `Code.wire` is no request
of the spec's host: it is the model's way of running one wire-frame row by itself (notes/assumptions/8.md). -/
inductive Request where
  | code (c : Code)
  | reset
  deriving DecidableEq, Repr

/-- Does a row belong to a block of this family (the family column of the table, R84)? -/
def Instr.onFamily : Instr → Family → Bool
  | .init20 _, f | .setavg _, f | .sman20 _, f | .sseq20 _ _, f | .wreg _ _, f | .rreg _, f
  | .readraw _, f | .modecfgRatio _, f
  | .w20 _ _, f | .r20a _, f | .r20b, f | .f20, f | .f20Rx12 _ _ _, f | .f20Rx16 _ _ _, f
  | .mask20 _, f => decide (f = .adc20)
  | .init24, f | .sman24 _, f | .sseq24 _ _, f | .wctl _, f | .modecfgWord12 _, f
  | .c24 _, f | .cw12Manual _, f | .cw12Seq _, f | .p24, f | .f24, f | .f24Rx _ _, f => decide (f = .adc24)
  | .tomv _ _, _ | .chkid _ _, _ | .sseqStop _, _
  | .illegalOpc0 _, _ | .illegalOpcA _, _ | .illegalOpcB _, _ | .illegalOpcC _, _ | .illegalOpcD _, _
  | .illegalOpcE _, _ | .illegalOpcF _, _ => true

/-- The "kind" column of the table. -/
inductive RowKind where
  | command
  | reserved
  | pseudo
  | wireFrame
  deriving DecidableEq, Repr

/-- Commands (R84), reserved opcodes (R86), aliases whose words decode to the core instruction's (R92), and
wire frames, the engine's primitives (R95 to R104). -/
def Instr.kind : Instr → RowKind
  | .init20 _ | .init24 | .setavg _ | .sman20 _ | .sman24 _ | .sseq20 _ _ | .sseq24 _ _ | .wreg _ _
  | .rreg _ | .wctl _ | .tomv _ _ | .chkid _ _ => .command
  | .illegalOpc0 _ | .illegalOpcA _ | .illegalOpcB _ | .illegalOpcC _ | .illegalOpcD _ | .illegalOpcE _
  | .illegalOpcF _ => .reserved
  | .readraw _ | .modecfgRatio _ | .modecfgWord12 _ | .sseqStop _ => .pseudo
  | .w20 _ _ | .r20a _ | .r20b | .f20 | .f20Rx12 _ _ _ | .f20Rx16 _ _ _ | .c24 _ | .cw12Manual _
  | .cw12Seq _ | .p24 | .f24 | .f24Rx _ _ | .mask20 _ => .wireFrame

end Sys2Proof
end

