-- ==== Sys2Proof/Machine/State.lean ====
section
/-! DEFINITION. The state of one block instance (spec/10_state.md R20), the observation of its run (R16), the inputs
it has yet to meet, the reasons a step can stop, and the state after reset (R39, R240). Plain data throughout. -/

namespace Sys2Proof.Machine

/-- The acquisition state ST (R29): 0 Idle, 1 Configured (ADC20) or Initialized (ADC24), 2 Manual, 3
Sequencing. -/
inductive AcqState where
  | idle
  | configured
  | manual
  | sequencing
  deriving DecidableEq, Repr

/-- The completion codes of STATUS (R22, R210), and of PEND, where `ok` stands for "0 if none" (R27). The codes 5
to 7 are never written. -/
inductive Status where
  | ok
  | invalidArgument
  | ioError
  | protocolDesync
  | illegalCommand
  deriving DecidableEq, Repr

/-- A sample record of OUT (R33). `mv` is 32-bit two's complement. -/
structure Sample where
  seqIdx : Byte
  raw : Half
  res : Resolution
  chidv : Bool
  chid : BitVec 4
  mv : Word
  deriving DecidableEq, Repr

/-- The response to a command (R89): the triple (STATUS, RESULT, NSAMP). -/
structure Response where
  status : Status
  result : Word
  nsamp : Byte
  deriving DecidableEq, Repr

/-- A decoded conversion frame: what Frame20 and Frame24 return (R143, R173). -/
structure Frame where
  raw : Half
  res : Resolution
  chidv : Bool
  chid : BitVec 4
  deriving DecidableEq, Repr

/-- The MODEL's own latches: the local variables of the spec's pseudocode as data, so that a wire-frame row has
somewhere to leave what it receives or builds. No rule reads them after the command. DESIGN CHOICE:
notes/assumptions/7.md. -/
structure Latch where
  /-- `rx`: the bytes received by the last exchange that was answered Ok. -/
  rx : List Byte
  /-- `fr`: the last decoded conversion frame. -/
  fr : Frame
  /-- `cw12`: the last control word built (R101). -/
  cw : BitVec 12
  /-- `mask(stop)`: the last auto-sequence mask built (R100). -/
  mask : Byte
  deriving DecidableEq, Repr

/-- The latches before anything was received or built. -/
def Latch.clear : Latch where
  rx := []
  fr := { raw := 0, res := .bits12, chidv := false, chid := 0 }
  cw := 0
  mask := 0

/-- The block's state S (R20), then the observation of its run (R16), then what the model adds: the inputs yet to
come, the parameters, the latches. -/
structure State where
  /-- FAMILY, a strap (R28). -/
  family : Family
  /-- ST (R29). -/
  st : AcqState
  /-- INITED (R30). -/
  inited : Bool
  /-- OSR (R31). -/
  osr : BitVec 3
  /-- CHID_EN (R32). -/
  chidEn : Bool
  /-- BUSY (R26). -/
  busy : Bool
  /-- STATUS (R22). -/
  status : Status
  /-- RESULT (R23). -/
  result : Word
  /-- NSAMP (R24). -/
  nsamp : Byte
  /-- RAW (R25). -/
  raw : Half
  /-- RES (R25). -/
  res : Resolution
  /-- CHIDV (R25). -/
  chidv : Bool
  /-- CHID (R25). -/
  chid : BitVec 4
  /-- MV, two's complement (R25). -/
  mv : Word
  /-- OPW (R27). -/
  opw : Word
  /-- STEP (R27). -/
  stepNo : Byte
  /-- IDX (R27). -/
  idx : Byte
  /-- PEND (R27). -/
  pend : Status
  /-- OUT (R33), oldest record first. -/
  out : List Sample
  /-- The trace T (R16, R34), oldest event first. -/
  trace : List Event
  /-- The command responses so far (R16), oldest first. -/
  responses : List Response
  /-- What the host presents next (R12, R80), first to come first. -/
  port : List Request
  /-- What the oracle answers next (R54), first to come first. -/
  answers : List Answer
  /-- The parameters (R8 to R11, R38): fixed for the life of the instance. -/
  cfg : Cfg
  /-- The model's latches. -/
  lat : Latch
  deriving DecidableEq, Repr

/-- Why a step faults. It has NO constructor: "A model must not give the block a terminal dead state" (R218);
every error of R210 is a completion with a status, taken by `raise`. -/
inductive Fault where
  deriving DecidableEq, Repr

/-- Why a step refuses. -/
inductive Refusal where
  /-- An instruction that has no meaning yet; raised by exec's arm alone. No arm raises it now. Safe. -/
  | notModelled (mnemonic : String)
  /-- A command presented while BUSY = 1, raised by every command's meaning: 93 U13 "no step is defined; the host
  is assumed never to do it". Safe. -/
  | commandWhileBusy
  /-- Reset asserted while BUSY = 1, raised by the step: R241 "A model gives reset no step while a command is
  executing". Safe. -/
  | resetWhileBusy
  /-- A wire-frame row run on a block of the other family, raised by that row's meaning: R51 "No other exchange is
  ever issued". Safe. -/
  | frameOfOtherFamily
  /-- Bits given for a wire-frame row that are no frame of it, raised by the step: R51. Safe. -/
  | frameDoesNotFit
  deriving DecidableEq, Repr

/-- The machine right after reset (R39, R240). FAMILY is a strap that reset does not change: ADC20 here is a
DESIGN CHOICE (notes/assumptions/5.md), unsafe; the parameters are R10's default column (PRESUMED,
notes/assumptions/4.md); nothing is waiting at the port and no answer is listed. -/
def State.reset : State where
  family := .adc20
  st := .idle
  inited := false
  osr := 0
  chidEn := false
  busy := false
  status := .ok
  result := 0
  nsamp := 0
  raw := 0
  res := .bits12
  chidv := false
  chid := 0
  mv := 0
  opw := 0
  stepNo := 0
  idx := 0
  pend := .ok
  out := []
  trace := []
  responses := []
  port := []
  answers := []
  cfg := Cfg.suggested
  lat := Latch.clear

end Sys2Proof.Machine
end

