-- ==== Sys2Proof/Machine/Flags.lean ====
section
/-! DEFINITION. The block has no arithmetic condition flag (spec/10_state.md R26). What decides a command's course
stands here: the channel-ID comparison (R201), the argument ranges (R9, R211), and the numeric codes of STATUS,
ST and the one-bit flags as the host reads them (R22, R28, R29). -/

namespace Sys2Proof.Machine

/-- chid_ok (R201): true iff the frame carries no nibble, or the nibble, zero-extended to 8 bits, is the expected
channel. -/
def chidOk (chidv : Bool) (chid : BitVec 4) (expected : Byte) : Bool :=
  !chidv || decide (chid.setWidth 8 = expected)

/-- The greatest channel of a family (R9): 7 on ADC20, 15 on ADC24. -/
def maxChannel : Family → Nat
  | .adc20 => 7
  | .adc24 => 15

/-- The legal averaging ratios (R9, R146, R211): 0 to 7. -/
def ratioLegal (ratio : Byte) : Bool := decide (ratio.toNat ≤ 7)

/-- The legal channels of SMAN (R150, R175, R211). -/
def channelLegal (fam : Family) (ch : Byte) : Bool := decide (ch.toNat ≤ maxChannel fam)

/-- The legal stop channels of SSEQ (R153, R178, R211): 1 to the family's greatest channel. -/
def stopLegal (fam : Family) (stop : Byte) : Bool :=
  decide (1 ≤ stop.toNat) && decide (stop.toNat ≤ maxChannel fam)

/-- The one legal count of SSEQ (R153, R178): stop + 1, on integers. -/
def countLegal (stop count : Byte) : Bool := decide (count.toNat = stop.toNat + 1)

/-- STATUS as its 3-bit code (R210). -/
def statusCode : Status → BitVec 3
  | .ok => 0
  | .invalidArgument => 1
  | .ioError => 2
  | .protocolDesync => 3
  | .illegalCommand => 4

/-- ST as its 2-bit code (R29). -/
def stCode : AcqState → BitVec 2
  | .idle => 0
  | .configured => 1
  | .manual => 2
  | .sequencing => 3

/-- FAMILY as its strap bit (R28). -/
def familyBit : Family → BitVec 1
  | .adc20 => 0
  | .adc24 => 1

end Sys2Proof.Machine
end

