-- ==== Sys2Proof/WellFormed.lean ====
section
/-! DEFINITION. Which terms of `Instr` the encodings admit. Most operand widths are in the types; three rows admit
fewer values than their operand's type has. -/

namespace Sys2Proof

/-- An instruction that has a code: the one-operand SSEQ needs stop + 1 to fit the count field (R91, R92);
the sequence control word takes stop in 1 to 15 (R101); the mask takes stop in 1 to 7 (R100). Out-of-range
operands of commands are legal encodings (R87). -/
def Instr.wf : Instr → Bool
  | .sseqStop stop => decide (stop ≠ 255#8)
  | .cw12Seq stop => decide (stop ≠ 0#4)
  | .mask20 stop => decide (stop ≠ 0#3)
  | .init20 _ | .init24 | .setavg _ | .sman20 _ | .sman24 _ | .sseq20 _ _ | .sseq24 _ _ | .wreg _ _
  | .rreg _ | .wctl _ | .tomv _ _ | .chkid _ _
  | .illegalOpc0 _ | .illegalOpcA _ | .illegalOpcB _ | .illegalOpcC _ | .illegalOpcD _ | .illegalOpcE _
  | .illegalOpcF _
  | .readraw _ | .modecfgRatio _ | .modecfgWord12 _
  | .w20 _ _ | .r20a _ | .r20b | .f20 | .f20Rx12 _ _ _ | .f20Rx16 _ _ _ | .c24 _ | .cw12Manual _
  | .p24 | .f24 | .f24Rx _ _ => true

end Sys2Proof
end

