-- ==== Sys2Proof/Decode.lean ====
section
/-! DEFINITION. The two encodings of spec/30_encoding.md: the command word (R80 to R92) and the wire frames (R95 to
R104). A total decoder that rejects by name, and after it the encoder. -/

namespace Sys2Proof

/-- A field value zero-extended to `n` bits and placed with its least significant bit at `lo` (R13's `a << n`). -/
def place (n lo : Nat) {width : Nat} (x : BitVec width) : BitVec n := x.setWidth n <<< lo

/-! ### Fields of a command word (R81) -/

/-- OPC, bits [31:28]. -/
def opcField (w : Word) : BitVec 4 := w.extractLsb' 28 4
/-- RSV, bits [27:24]: reserved, must be 0. -/
def rsvField (w : Word) : BitVec 4 := w.extractLsb' 24 4
/-- A, bits [23:16]: first operand. -/
def fieldA (w : Word) : Byte := w.extractLsb' 16 8
/-- B, bits [15:0]: second operand. -/
def fieldB (w : Word) : Half := w.extractLsb' 0 16
/-- The 28 bits below OPC, of a reserved opcode (R86). -/
def restField (w : Word) : BitVec 28 := w.extractLsb' 0 28

/-- A command word from its four fields (R81). -/
def packWord (opc rsv : BitVec 4) (a : Byte) (b : Half) : Word :=
  place 32 28 opc ||| place 32 24 rsv ||| place 32 16 a ||| place 32 0 b

/-! ### Values that frames carry -/

/-- The ADC20 auto-sequence mask (R100): (1 << (stop + 1)) - 1 on integers, cut to the 8 bits of the register
value. -/
def seqMask (stop : Nat) : Byte := BitVec.ofNat 8 ((1 <<< (stop + 1)) - 1)

/-- A 12-bit control word: the base with a channel in bits [9:6] (R101). -/
def channelWord (base : BitVec 12) (ch : BitVec 4) : BitVec 12 := base ||| place 12 6 ch

/-- How far CW_SHIFT shifts (R10, R102). -/
def CwShift.amount : CwShift → Nat
  | .none0 => 0
  | .left4 => 4

/-- The 16-bit control frame (R102): (cw12 << CW_SHIFT) & 0xFFFF. -/
def controlFrame (shift : CwShift) (cw : BitVec 12) : Half := place 16 shift.amount cw

/-! ### Decoding -/

/-- Why a code decodes to no instruction. For a command word each reason makes it `Illegal` (R85). -/
inductive Reject where
  /-- RSV is not 0 (R85 b). -/
  | reservedField
  /-- A bit that the format requires to be zero is 1 (R85 c, e). -/
  | mustBeZero
  /-- The row is not of the block's family (R85 d). -/
  | notOfFamily
  /-- The bits are no frame of the wire row they are given for. -/
  | frameDoesNotFit
  deriving DecidableEq, Repr

/-- A row of one family, selected only by a block of that family (R84, R88). -/
def ofFamily (need fam : Family) (r : Except Reject Instr) : Except Reject Instr :=
  if need = fam then r else .error .notOfFamily

/-- A decoded row where the bits that must be zero are zero (R82, R85 c). -/
def ifZero (zero : Bool) (i : Instr) : Except Reject Instr :=
  if zero then .ok i else .error .mustBeZero

/-- Format FI: A must be 0, B[0] is chid, B[15:1] must be 0; on ADC24 chid must be 0 too (R82, R85 e). -/
def decodeInit (fam : Family) (a : Byte) (b : Half) : Except Reject Instr :=
  match fam with
  | .adc20 => ifZero (decide (a = 0#8) && decide (b.extractLsb' 1 15 = 0#15)) (.init20 (b.getLsbD 0))
  | .adc24 => ifZero (decide (a = 0#8) && decide (b = 0#16)) .init24

/-- The command rows of R84, for a word whose RSV is 0. -/
def decodeCommand (fam : Family) (opc : Nat) (a : Byte) (b : Half) : Except Reject Instr :=
  match opc with
  | 1 => decodeInit fam a b
  | 2 => ofFamily .adc20 fam (ifZero (decide (b = 0#16)) (.setavg a))
  | 3 => ifZero (decide (b = 0#16)) (match fam with | .adc20 => .sman20 a | .adc24 => .sman24 a)
  | 4 => ifZero (decide (b.extractLsb' 8 8 = 0#8))
      (match fam with | .adc20 => .sseq20 a (b.extractLsb' 0 8) | .adc24 => .sseq24 a (b.extractLsb' 0 8))
  | 5 => ofFamily .adc20 fam (ifZero (decide (b.extractLsb' 8 8 = 0#8)) (.wreg a (b.extractLsb' 0 8)))
  | 6 => ofFamily .adc20 fam (ifZero (decide (b = 0#16)) (.rreg a))
  | 7 => ofFamily .adc24 fam
      (ifZero (decide (a = 0#8) && decide (b.extractLsb' 12 4 = 0#4)) (.wctl (b.extractLsb' 0 12)))
  | 8 => ifZero (decide (a.extractLsb' 1 7 = 0#7))
      (.tomv (if a.getLsbD 0 then .bits16 else .bits12) b)
  | _ => ifZero (decide (b.extractLsb' 4 12 = 0#12)) (.chkid a (b.extractLsb' 0 4))

/-- Command words (R84 to R88): the reserved opcodes 0x0 and 0xA to 0xF whatever their other bits, the others
with RSV = 0. -/
def decodeWord (fam : Family) (w : Word) : Except Reject Instr :=
  match (opcField w).toNat with
  | 0 => .ok (.illegalOpc0 (restField w))
  | 10 => .ok (.illegalOpcA (restField w))
  | 11 => .ok (.illegalOpcB (restField w))
  | 12 => .ok (.illegalOpcC (restField w))
  | 13 => .ok (.illegalOpcD (restField w))
  | 14 => .ok (.illegalOpcE (restField w))
  | 15 => .ok (.illegalOpcF (restField w))
  | opc => if rsvField w = 0#4 then decodeCommand fam opc (fieldA w) (fieldB w) else .error .reservedField

/-- The family whose wire frames have this shape (the table's family column, R51). -/
def Shape.family : Shape → Family
  | .w20 | .r20a | .r20b | .f20 | .f20Rx12 | .f20Rx16 | .mask20 => .adc20
  | .c24 | .cw12Manual | .cw12Seq | .p24 | .f24 | .f24Rx => .adc24

/-- First byte of a 3-byte frame, R13's t1 or r1. -/
def byte1 (v : BitVec 24) : Byte := v.extractLsb' 16 8
/-- Second byte of a 3-byte frame. -/
def byte2 (v : BitVec 24) : Byte := v.extractLsb' 8 8
/-- Third byte of a 3-byte frame. -/
def byte3 (v : BitVec 24) : Byte := v.extractLsb' 0 8

/-- A three-byte frame, first byte most significant (R58). -/
def frame3 (b1 b2 b3 : Byte) : BitVec 24 := place 24 16 b1 ||| place 24 8 b2 ||| place 24 0 b3

/-- A two-byte frame, right-aligned. -/
def frame2 (f : Half) : BitVec 24 := place 24 0 f

/-- A 12-bit control word, right-aligned (R101). -/
def frame12 (cw : BitVec 12) : BitVec 24 := place 24 0 cw

/-- The 24 bits of a received ADC20 conversion frame in 12-bit mode: code, nibble, ignored byte (R98). -/
def layout12 (code : BitVec 12) (nib : BitVec 4) (ignored : Byte) : BitVec 24 :=
  place 24 12 code ||| place 24 8 nib ||| place 24 0 ignored

/-- The 24 bits of a received ADC20 conversion frame in 16-bit mode: code, nibble, 4 ignored bits (R99). -/
def layout16 (code : Half) (nib ignored : BitVec 4) : BitVec 24 :=
  place 24 8 code ||| place 24 4 nib ||| place 24 0 ignored

/-- The 16 bits of a received ADC24 conversion frame: 4 ignored bits, the code (R104). -/
def layout24 (ignored : BitVec 4) (code : BitVec 12) : Half := place 16 12 ignored ||| place 16 0 code

/-- A decoded wire row where the fixed bits of its pattern stand as they must. -/
def ifFits (fits : Bool) (i : Instr) : Except Reject Instr :=
  if fits then .ok i else .error .frameDoesNotFit

/-- The fields of a wire row's bits, under the parameters of the block (R95 to R104). -/
def decodeShape (cfg : Cfg) (sh : Shape) (v : BitVec 24) : Except Reject Instr :=
  match sh with
  | .w20 => ifFits (decide (byte1 v = cfg.writeCmd)) (.w20 (byte2 v) (byte3 v))
  | .r20a => ifFits (decide (byte1 v = cfg.readCmd) && decide (byte3 v = cfg.dummy)) (.r20a (byte2 v))
  | .r20b => ifFits (decide (v = frame3 0 0 cfg.dummy)) .r20b
  | .f20 => ifFits (decide (v = frame3 cfg.dummy cfg.dummy cfg.dummy)) .f20
  | .f20Rx12 => .ok (.f20Rx12 (v.extractLsb' 12 12) (v.extractLsb' 8 4) (v.extractLsb' 0 8))
  | .f20Rx16 => .ok (.f20Rx16 (v.extractLsb' 8 16) (v.extractLsb' 4 4) (v.extractLsb' 0 4))
  | .c24 =>
    match cfg.cwShift with
    | .left4 => ifFits (decide (byte1 v = 0#8) && decide (v.extractLsb' 0 4 = 0#4)) (.c24 (v.extractLsb' 4 12))
    | .none0 => ifFits (decide (v.extractLsb' 12 12 = 0#12)) (.c24 (v.extractLsb' 0 12))
  | .cw12Manual =>
    ifFits (decide (v = frame12 (channelWord cfg.baseManual (v.extractLsb' 6 4)))) (.cw12Manual (v.extractLsb' 6 4))
  | .cw12Seq =>
    ifFits (decide (v = frame12 (channelWord cfg.baseSeq (v.extractLsb' 6 4))) && decide (v.extractLsb' 6 4 ≠ 0#4))
      (.cw12Seq (v.extractLsb' 6 4))
  | .p24 => ifFits (decide (v = frame2 0xFFFF)) .p24
  | .f24 => ifFits (decide (v = frame2 cfg.readTx)) .f24
  | .f24Rx => ifFits (decide (byte1 v = 0#8)) (.f24Rx (v.extractLsb' 12 4) (v.extractLsb' 0 12))
  | .mask20 =>
    match v.toNat with
    | 3 => .ok (.mask20 1)
    | 7 => .ok (.mask20 2)
    | 15 => .ok (.mask20 3)
    | 31 => .ok (.mask20 4)
    | 63 => .ok (.mask20 5)
    | 127 => .ok (.mask20 6)
    | 255 => .ok (.mask20 7)
    | _ => .error .frameDoesNotFit

/-- The whole decoder: total on every code, for a block of this family with these parameters. -/
def decodeCode (cfg : Cfg) (fam : Family) (c : Code) : Except Reject Instr :=
  match c with
  | .word w => decodeWord fam w
  | .wire sh v => ofFamily sh.family fam (decodeShape cfg sh v)

/-! ### Encoding -/

/-- A reserved opcode's word from its opcode and its 28 other bits (R86). -/
def reservedWord (opc : BitVec 4) (rest : BitVec 28) : Word := place 32 28 opc ||| place 32 0 rest

/-- The bit that the resolution tag is (R25, R82 format FC). -/
def Resolution.bit : Resolution → BitVec 1
  | .bits12 => 0#1
  | .bits16 => 1#1

/-- The command word of a row, from the syntax table of R91; an alias has the word of its core instruction
(R92). A wire row is no command: 0 stands for it here and `encode` gives its frame. -/
def encodeWord : Instr → Word
  | .init20 chid => packWord 1 0 0 (place 16 0 (BitVec.ofBool chid))
  | .init24 => packWord 1 0 0 0
  | .setavg ratio | .modecfgRatio ratio => packWord 2 0 ratio 0
  | .sman20 ch | .sman24 ch => packWord 3 0 ch 0
  | .sseq20 stop count | .sseq24 stop count => packWord 4 0 stop (place 16 0 count)
  | .sseqStop stop => packWord 4 0 stop (place 16 0 (stop + 1))
  | .wreg addr value => packWord 5 0 addr (place 16 0 value)
  | .rreg addr | .readraw addr => packWord 6 0 addr 0
  | .wctl word12 | .modecfgWord12 word12 => packWord 7 0 0 (place 16 0 word12)
  | .tomv res code16 => packWord 8 0 (place 8 0 res.bit) code16
  | .chkid expected nib => packWord 9 0 expected (place 16 0 nib)
  | .illegalOpc0 rest => reservedWord 0x0 rest
  | .illegalOpcA rest => reservedWord 0xA rest
  | .illegalOpcB rest => reservedWord 0xB rest
  | .illegalOpcC rest => reservedWord 0xC rest
  | .illegalOpcD rest => reservedWord 0xD rest
  | .illegalOpcE rest => reservedWord 0xE rest
  | .illegalOpcF rest => reservedWord 0xF rest
  | .w20 _ _ | .r20a _ | .r20b | .f20 | .f20Rx12 _ _ _ | .f20Rx16 _ _ _ | .c24 _ | .cw12Manual _
  | .cw12Seq _ | .p24 | .f24 | .f24Rx _ _ | .mask20 _ => 0

/-- The code of an instruction: its command word, or the bits of its wire frame (R95 to R104). -/
def encode (cfg : Cfg) (i : Instr) : Code :=
  match i with
  | .w20 addr value => .wire .w20 (frame3 cfg.writeCmd addr value)
  | .r20a addr => .wire .r20a (frame3 cfg.readCmd addr cfg.dummy)
  | .r20b => .wire .r20b (frame3 0 0 cfg.dummy)
  | .f20 => .wire .f20 (frame3 cfg.dummy cfg.dummy cfg.dummy)
  | .f20Rx12 code nib ignored => .wire .f20Rx12 (layout12 code nib ignored)
  | .f20Rx16 code nib ignored => .wire .f20Rx16 (layout16 code nib ignored)
  | .c24 cw => .wire .c24 (frame2 (controlFrame cfg.cwShift cw))
  | .cw12Manual ch => .wire .cw12Manual (frame12 (channelWord cfg.baseManual ch))
  | .cw12Seq stop => .wire .cw12Seq (frame12 (channelWord cfg.baseSeq stop))
  | .p24 => .wire .p24 (frame2 0xFFFF)
  | .f24 => .wire .f24 (frame2 cfg.readTx)
  | .f24Rx ignored code => .wire .f24Rx (frame2 (layout24 ignored code))
  | .mask20 stop => .wire .mask20 (frame3 0 0 (seqMask stop.toNat))
  | .init20 _ | .init24 | .setavg _ | .sman20 _ | .sman24 _ | .sseq20 _ _ | .sseq24 _ _ | .wreg _ _
  | .rreg _ | .wctl _ | .tomv _ _ | .chkid _ _
  | .illegalOpc0 _ | .illegalOpcA _ | .illegalOpcB _ | .illegalOpcC _ | .illegalOpcD _ | .illegalOpcE _
  | .illegalOpcF _
  | .readraw _ | .modecfgRatio _ | .modecfgWord12 _ | .sseqStop _ => .word (encodeWord i)

/-! ### The opcode table's numbering -/

/-- The other family. -/
def Family.other : Family → Family
  | .adc20 => .adc24
  | .adc24 => .adc20

/-- Which family's block a code is for: the given one if it decodes there, else the other if it decodes there,
else the given one (R85 d: WCTL's words are Illegal on ADC20, SETAVG's on ADC24). -/
def familyFor (cfg : Cfg) (fam : Family) (c : Code) : Family :=
  match decodeCode cfg fam c with
  | .ok _ => fam
  | .error _ =>
    match decodeCode cfg fam.other c with
    | .ok _ => fam.other
    | .error _ => fam

/-- The wire shapes whose frames have this many bits, in the table's order, for a row of that width; the
receive rows, which every frame fits, stand last. -/
def shapesOfWidth : Nat → List Shape
  | 8 => [.r20b, .mask20]
  | 16 => [.c24, .p24, .f24, .f24Rx]
  | 24 => [.w20, .r20a, .f20, .f20Rx12]
  | _ => []

/-- The first of these shapes whose rows a frame fits. -/
def firstFit (cfg : Cfg) (v : BitVec 24) : List Shape → Option Shape
  | [] => none
  | sh :: rest =>
    match decodeShape cfg sh v with
    | .ok _ => some sh
    | .error _ => firstFit cfg v rest

/-- The code that the table's numbering of an instruction's bits stands for: 32 bits a command word, fewer bits
a wire frame of that many bits, read as one number with its first byte most significant. -/
def tableCode (cfg : Cfg) (nbits w : Nat) : Code :=
  match firstFit cfg (BitVec.ofNat 24 w) (shapesOfWidth nbits) with
  | some sh => .wire sh (BitVec.ofNat 24 w)
  | none => .word (BitVec.ofNat 32 w)

/-- What the decoder reads from an instruction whose bits are `w`, numbered as spec/opcode_table.json numbers
them, by a block with the suggested parameters, of the family that has the row. -/
def decodeTableWord (nbits w : Nat) : Option Instr :=
  let c := tableCode Cfg.suggested nbits w
  match decodeCode Cfg.suggested (familyFor Cfg.suggested .adc20 c) c with
  | .ok i => some i
  | .error _ => none

end Sys2Proof
end

