-- ==== Sys2Proof/Machine/Converter.lean ====
section
/-! DEFINITION. The code-to-voltage converter, spec/44_converter.md R190 to R196. -/

namespace Sys2Proof.Machine

/-- Quotient truncated toward zero, for b > 0 (R14). -/
def tdiv (a b : Int) : Int :=
  if 0 ≤ a then a / b else -((-a) / b)

/-- Full-scale code (R9, R190): FS(0) = 4095, FS(1) = 65535. -/
def fullScale : Resolution → Int
  | .bits12 => 4095
  | .bits16 => 65535

/-- The converter (R190), over unbounded integers. -/
def toMv (v : Int) (res : Resolution) (vrange : Nat) : Int :=
  tdiv (v * vrange) (fullScale res)

/-- The integer that a (RAW, RES) pair denotes (R25): unsigned in 16-bit mode, 16-bit two's complement in 12-bit
mode. -/
def codeValue (raw : Half) : Resolution → Int
  | .bits12 => raw.toInt
  | .bits16 => raw.toNat

/-- The voltage range of a family in millivolts (R10, R191). -/
def vrange (cfg : Cfg) : Family → Nat
  | .adc20 => cfg.vrangeMv20
  | .adc24 => cfg.vrangeMv24

/-- The millivolts of a code as the 32-bit two's complement of MV and RESULT (R23, R144, R176, R192). -/
def millivolts (cfg : Cfg) (fam : Family) (raw : Half) (res : Resolution) : Word :=
  BitVec.ofInt 32 (toMv (codeValue raw res) res (vrange cfg fam))

end Sys2Proof.Machine
end

