-- ==== Sys2Proof/Machine/Operands.lean ====
section
/-! DEFINITION. Operand and frame forms: the byte order of a 16-bit frame (R58), the decoding of received conversion
frames (R98, R99, R104, R143, R173, R174), sample records from them (R144, R176), and the packings of a response and
of a record into one word (R89, R90). -/

namespace Sys2Proof.Machine

/-- A 16-bit frame as its two bytes, most significant first (R58 a). -/
def frameBytes (f : Half) : List Byte := [f.extractLsb' 8 8, f.extractLsb' 0 8]

/-- A received pair as a 16-bit frame: (r1 << 8) | r2 (R58 a). -/
def pairFrame (r1 r2 : Byte) : Half := place 16 8 r1 ||| place 16 0 r2

/-- The frame of the first two of the received bytes. An exchange answered Ok returns as many bytes as were
transmitted (R51), so that in every use there are two; missing ones are read as 0. -/
def rxFrame (rx : List Byte) : Half := pairFrame (rx.getD 0 0) (rx.getD 1 0)

/-- The decode of Frame20 (R143; layouts R98 and R99) under the caches OSR and CHID_EN. -/
def decodeFrame20 (osr : BitVec 3) (chidEn : Bool) (r1 r2 r3 : Byte) : Frame :=
  let p := pairFrame r1 r2
  if osr = 0#3 then
    { raw := p >>> 4, res := .bits12, chidv := chidEn,
      chid := if chidEn then p.extractLsb' 0 4 else 0 }
  else
    { raw := p, res := .bits16, chidv := chidEn,
      chid := if chidEn then r3.extractLsb' 4 4 else 0 }

/-- Frame20's decode of the bytes of one read cycle. -/
def rxFrame20 (osr : BitVec 3) (chidEn : Bool) (rx : List Byte) : Frame :=
  decodeFrame20 osr chidEn (rx.getD 0 0) (rx.getD 1 0) (rx.getD 2 0)

/-- SignExt24 (R174): OR 0xF000 when bit 11 is set. -/
def signExt24 (code : BitVec 12) : Half :=
  if code.getLsbD 11 then code.setWidth 16 ||| 0xF000#16 else code.setWidth 16

/-- The decode of Frame24 (R173; layout R104): bits [15:12] are ignored. -/
def decodeFrame24 (f : Half) : Frame where
  raw := signExt24 (f.extractLsb' 0 12)
  res := .bits12
  chidv := false
  chid := 0

/-- Sample20 and Sample24 (R144, R176): the record of a decoded frame at a stream index. -/
def sampleOf (cfg : Cfg) (fam : Family) (fr : Frame) (idx : Byte) : Sample where
  seqIdx := idx
  raw := fr.raw
  res := fr.res
  chidv := fr.chidv
  chid := fr.chid
  mv := millivolts cfg fam fr.raw fr.res

/-- RESP (R89): RESULT in [31:0], NSAMP in [39:32], STATUS in [42:40], 0 above. -/
def packResponse (status : BitVec 3) (result : Word) (nsamp : Byte) : BitVec 64 :=
  place 64 40 status ||| place 64 32 nsamp ||| place 64 0 result

/-- SREC (R90): MV in [31:0], RAW in [47:32], RES in 48, CHIDV in 49, CHID in [53:50], SEQ_IDX in [61:54], 0
above. -/
def packSample (r : Sample) : BitVec 64 :=
  place 64 54 r.seqIdx ||| place 64 50 r.chid ||| place 64 49 (BitVec.ofBool r.chidv) ||| place 64 48 r.res.bit
    ||| place 64 32 r.raw ||| place 64 0 r.mv

end Sys2Proof.Machine
end

