-- ==== Sys2Proof/Machine/Ops.lean ====
section
/-! DEFINITION. The named operations: one Transport exchange (R50), the primitives that commands are built from
(R121, R123, R131, R142, R143, R172, R173), emitting a record (R33), accepting a command (R214), completing it
(R15), taking an error (R216, the block's one form of exception), reset (R240), and reading a register (R21). -/

namespace Sys2Proof.Machine

/-! ### Accepting and completing a command -/

/-- Acceptance (R214, R80): BUSY ← 1, OPW ← the word, STEP, IDX, PEND ← 0. -/
def accept (w : Word) (s : State) : State :=
  { s with busy := true, opw := w, stepNo := 0, idx := 0, pend := .ok }

/-- `finish` (R15): STATUS, RESULT and NSAMP get their values and BUSY ← 0. The response joins the observation of
the run (R16). -/
def finish (status : Status) (result : Word) (nsamp : Byte) (s : State) : State :=
  { s with
    status := status, result := result, nsamp := nsamp, busy := false
    responses := s.responses ++ [{ status := status, result := result, nsamp := nsamp }] }

/-- What IoError and ProtocolDesync do to ST and INITED, and the other statuses do not (R216, R40). -/
def dropSession (e : Status) (s : State) : State :=
  match e with
  | .ioError | .protocolDesync => { s with st := .idle, inited := false }
  | .ok | .invalidArgument | .illegalCommand => s

/-- `raise E` (R216): TAKING AN ERROR. ST ← Idle and INITED ← 0 for IoError and ProtocolDesync, then
finish(E, 0, IDX). There is no return from it but the host's recovery by INIT (R219). -/
def raise (e : Status) (s : State) : State :=
  finish e 0 s.idx (dropSession e s)

/-! ### The Transport -/

/-- The oracle's answer to an exchange: the next listed one, else the free value (R54). -/
def nextAnswer (tx : List Byte) (hold : Bool) (s : State) : Answer :=
  match s.answers with
  | [] => Config.freeAnswer s.trace tx hold
  | a :: _ => a

/-- The received bytes of an answer to an exchange of `n` bytes: an answer of any other length counts as Fail
(R51, R54). -/
def received (n : Nat) : Answer → Option (List Byte)
  | .fail => none
  | .ok rx => if rx.length = n then some rx else none

/-- The state after an exchange that got `rx`: one event on the trace (R16), the answer used, STEP counted (R27),
the received bytes latched. -/
def recordExchange (tx : List Byte) (hold : Bool) (rx : Option (List Byte)) (s : State) : State :=
  { s with
    trace := s.trace ++ [{ tx := tx, hold := hold, rx := rx }]
    answers := s.answers.tail
    stepNo := s.stepNo + 1
    lat := { s.lat with rx := rx.getD s.lat.rx } }

/-- `Xchg(tx, hold)` (R50): the state after the exchange, and the received bytes or none for Fail. -/
def xchg (tx : List Byte) (hold : Bool) (s : State) : State × Option (List Byte) :=
  let rx := received tx.length (nextAnswer tx hold s)
  (recordExchange tx hold rx s, rx)

/-- `if r = Fail: raise IoError`, else go on with what was received (R121, R123, R131, R142, R172). -/
def orIoError {α : Type} (r : State × Option α) (k : State → α → State) : State :=
  match r with
  | (s, none) => raise .ioError s
  | (s, some a) => k s a

/-! ### Primitives -/

/-- RegWrite20 (R121), shape W20: the received bytes are for the caller to discard. -/
def regWrite20 (addr value : Byte) (s : State) : State × Option (List Byte) :=
  xchg [s.cfg.writeCmd, addr, value] false s

/-- First part of RegRead20 (R123), shape R20a: chip-select stays held. -/
def regReadFirst (addr : Byte) (s : State) : State × Option (List Byte) :=
  xchg [s.cfg.readCmd, addr, s.cfg.dummy] true s

/-- Second part of RegRead20 (R123), shape R20b: the received byte is the register value. -/
def regReadSecond (s : State) : State × Option (List Byte) :=
  xchg [s.cfg.dummy] false s

/-- Cycle20 (R142), shape F20: one read cycle. -/
def cycle20 (s : State) : State × Option (List Byte) :=
  xchg [s.cfg.dummy, s.cfg.dummy, s.cfg.dummy] false s

/-- Latch a decoded frame. -/
def latchFrame (fr : Frame) (s : State) : State :=
  { s with lat := { s.lat with fr := fr } }

/-- Latch bytes that were received (a receive row of the opcode table). -/
def latchRx (rx : List Byte) (s : State) : State :=
  { s with lat := { s.lat with rx := rx } }

/-- Latch a control word that was built (R101). -/
def latchCw (cw : BitVec 12) (s : State) : State :=
  { s with lat := { s.lat with cw := cw } }

/-- Latch a mask that was built (R100). -/
def latchMask (m : Byte) (s : State) : State :=
  { s with lat := { s.lat with mask := m } }

/-- The decode half of Frame20 (R143): it reads OSR and CHID_EN. -/
def decode20 (rx : List Byte) (s : State) : State × Frame :=
  let fr := rxFrame20 s.osr s.chidEn rx
  (latchFrame fr s, fr)

/-- Frame20 (R143): one read cycle and its decode under the current configuration. -/
def frame20 (s : State) : State × Option Frame :=
  match cycle20 s with
  | (s, none) => (s, none)
  | (s, some rx) => ((decode20 rx s).1, some (decode20 rx s).2)

/-- CtlWrite24 (R131), shape C24: the received bytes are the frame it returns. -/
def ctlWrite24 (cw : BitVec 12) (s : State) : State × Option (List Byte) :=
  xchg (frameBytes (controlFrame s.cfg.cwShift cw)) false s

/-- One preamble frame (R103, R171), shape P24. -/
def preamble24 (s : State) : State × Option (List Byte) :=
  xchg (frameBytes 0xFFFF) false s

/-- Xfer24 (R172), shape F24: one read transfer. -/
def xfer24 (s : State) : State × Option (List Byte) :=
  xchg (frameBytes s.cfg.readTx) false s

/-- The decode half of Frame24 (R173). -/
def decode24 (rx : List Byte) (s : State) : State × Frame :=
  let fr := decodeFrame24 (rxFrame rx)
  (latchFrame fr s, fr)

/-- Frame24 (R173): one read transfer and its decode. -/
def frame24 (s : State) : State × Option Frame :=
  match xfer24 s with
  | (s, none) => (s, none)
  | (s, some rx) => ((decode24 rx s).1, some (decode24 rx s).2)

/-- `emit(s)` (R33, R25): append to OUT, copy into the last-sample registers, count IDX. -/
def emit (r : Sample) (s : State) : State :=
  { s with
    out := s.out ++ [r]
    raw := r.raw, res := r.res, chidv := r.chidv, chid := r.chid, mv := r.mv
    idx := s.idx + 1 }

/-! ### What all commands share -/

/-- A command: not accepted while BUSY = 1 (R26, 93 U13); else accepted and, where the word is no row of the
block's family, completed with IllegalCommand (R85 d, R213), else its body. -/
def command (legal : Bool) (w : Word) (body : State → State) (s : State) : Host.Outcome State Fault Refusal :=
  if s.busy then .refused .commandWhileBusy
  else .next (if legal then body (accept w s) else raise .illegalCommand (accept w s))

/-- A word that decodes to no row: accepted and completed with IllegalCommand (R85, R213). -/
def illegalWord (w : Word) (s : State) : Host.Outcome State Fault Refusal :=
  command false w id s

/-- A wire-frame row, run as the engine's primitive on a block of its family (R51; notes/assumptions/8.md). -/
def primitive (fam : Family) (body : State → State) (s : State) : Host.Outcome State Fault Refusal :=
  if s.family = fam then .next (body s) else .refused .frameOfOtherFamily

/-- A primitive that does nothing with what its exchange received: it stays in the latch. -/
def exchangeOnly (r : State × Option (List Byte)) : State :=
  orIoError r fun s _ => s

/-! ### Reset, and what the step fetches -/

/-- Reset (R240, R39): every field of S but FAMILY gets its reset value and no exchange is issued. The trace, the
responses, the parameters and what is yet to come stay (95 P9). -/
def blockReset (s : State) : State :=
  { s with
    st := .idle, inited := false, osr := 0, chidEn := false, busy := false
    status := .ok, result := 0, nsamp := 0
    raw := 0, res := .bits12, chidv := false, chid := 0, mv := 0
    opw := 0, stepNo := 0, idx := 0, pend := .ok
    out := [], lat := Latch.clear }

/-- Reset asserted at the input: no step while BUSY = 1 (R241). -/
def resetRequest (s : State) : Host.Outcome State Fault Refusal :=
  if s.busy then .refused .resetWhileBusy else .next (blockReset s)

/-- A code at the input that decodes to nothing: an Illegal command word is a command (R85); bits that are no frame
of their wire row have no meaning. -/
def undecodable (c : Code) (s : State) : Host.Outcome State Fault Refusal :=
  match c with
  | .word w => illegalWord w s
  | .wire _ _ => .refused .frameDoesNotFit

/-- The state with the request at its input taken. -/
def takeRequest (s : State) : State := { s with port := s.port.tail }

/-! ### Host reads -/

/-- The registers the host can read: the result registers (R21) and the status bits ST, INITED, OSR, CHID_EN (R29,
R30, R229). BUSY and FAMILY are here by the model's own choice, DESIGN CHOICE, notes/assumptions/15.md: R231 has the
host wait for BUSY = 0 and no rule names the read; no rule says whether the host can read the FAMILY strap. -/
inductive HostReg where
  | STATUS | RESULT | NSAMP | RAW | RES | CHIDV | CHID | MV | ST | INITED | OSR | CHID_EN | FAMILY | BUSY
  deriving DecidableEq, Repr

/-- A host read: the register's value zero-extended to 32 bits. While BUSY = 1 the result registers and ST are not to
be read (R21, R26, R29). That FAMILY is readable, that BUSY is readable at any time, and that INITED, OSR, CHID_EN and
FAMILY answer none while BUSY = 1, is the model's choice where the spec is silent: DESIGN CHOICE,
notes/assumptions/15.md. -/
def hostRead (r : HostReg) (s : State) : Option Word :=
  match r with
  | .BUSY => some ((BitVec.ofBool s.busy).setWidth 32)
  | .STATUS => if s.busy then none else some ((statusCode s.status).setWidth 32)
  | .RESULT => if s.busy then none else some s.result
  | .NSAMP => if s.busy then none else some (s.nsamp.setWidth 32)
  | .RAW => if s.busy then none else some (s.raw.setWidth 32)
  | .RES => if s.busy then none else some (s.res.bit.setWidth 32)
  | .CHIDV => if s.busy then none else some ((BitVec.ofBool s.chidv).setWidth 32)
  | .CHID => if s.busy then none else some (s.chid.setWidth 32)
  | .MV => if s.busy then none else some s.mv
  | .ST => if s.busy then none else some ((stCode s.st).setWidth 32)
  | .INITED => if s.busy then none else some ((BitVec.ofBool s.inited).setWidth 32)
  | .OSR => if s.busy then none else some (s.osr.setWidth 32)
  | .CHID_EN => if s.busy then none else some ((BitVec.ofBool s.chidEn).setWidth 32)
  | .FAMILY => if s.busy then none else some ((familyBit s.family).setWidth 32)

/-- The response as the host reads it after a command (R89), packed in one word. -/
def hostResponse (s : State) : Option (BitVec 64) :=
  if s.busy then none else some (packResponse (statusCode s.status) s.result s.nsamp)

end Sys2Proof.Machine
end

