-- ==== Sys2Proof/Machine/Acquire20.lean ====
section
/-! DEFINITION. The ADC20 acquisition state machine: INIT, SETAVG (and the alias MODECFG ratio), SMAN, SSEQ
(spec/42_acquisition_adc20.md R140 to R155). -/

namespace Sys2Proof.Machine

/-- The body of INIT on ADC20 (R145): three writes in this order; CHID_EN, ST and INITED only after all three. -/
def bodyInit20 (chid : Bool) (s : State) : State :=
  orIoError (regWrite20 s.cfg.regDataCfg (if chid then s.cfg.valDataCfgChid else s.cfg.valDataCfgNochid) s) fun s _ =>
  orIoError (regWrite20 s.cfg.regPinCfg s.cfg.valPinAllAnalog s) fun s _ =>
  orIoError (regWrite20 s.cfg.regOpmode s.cfg.valOpmodeDefault s) fun s _ =>
  finish .ok 0 0 { s with chidEn := chid, st := .configured, inited := true }

/-- The body of SETAVG (R146): the range check comes first; OSR changes only after the write succeeded. -/
def bodySetavg (ratio : Byte) (s : State) : State :=
  if ratioLegal ratio then
    orIoError (regWrite20 s.cfg.regOsr ratio s) fun s _ =>
    finish .ok 0 0 { s with osr := ratio.extractLsb' 0 3 }
  else raise .invalidArgument s

/-- The body of SMAN on ADC20 (R150): channel write, dummy read cycle, real read cycle, channel-ID check (R201),
record. -/
def bodySman20 (ch : Byte) (s : State) : State :=
  if channelLegal .adc20 ch then
    orIoError (regWrite20 s.cfg.regChannelSel ch { s with st := .manual }) fun s _ =>
    orIoError (cycle20 s) fun s _ =>
    orIoError (frame20 s) fun s fr =>
    if chidOk fr.chidv fr.chid ch then
      let r := sampleOf s.cfg .adc20 fr 0
      finish .ok r.mv 1 (emit r s)
    else raise .protocolDesync s
  else raise .invalidArgument s

/-- The read cycles of SSEQ on ADC20 (R153): `n` frames from frame `i` on; the first failure or mismatch is
recorded in PEND and ends the loop. -/
def readLoop20 : Nat → Byte → State → State
  | 0, _, s => s
  | n + 1, i, s =>
    match frame20 s with
    | (s, none) => { s with pend := .ioError }
    | (s, some fr) =>
      if chidOk fr.chidv fr.chid i then readLoop20 n (i + 1) (emit (sampleOf s.cfg .adc20 fr i) s)
      else { s with pend := .protocolDesync }

/-- The start write and, if it succeeded, the read cycles (R153, exchanges 2 to count + 2). -/
def startAndRead20 (count : Byte) (s : State) : State :=
  match regWrite20 s.cfg.regSeqMode s.cfg.valSeqStart s with
  | (s, none) => { s with pend := .ioError }
  | (s, some _) => readLoop20 count.toNat 0 s

/-- The stop write (R153): its failure is recorded only where nothing failed before it (R217). -/
def stopWrite20 (s : State) : State :=
  match regWrite20 s.cfg.regSeqMode s.cfg.valSeqStop s with
  | (s, none) => if s.pend = .ok then { s with pend := .ioError } else s
  | (s, some _) => s

/-- The end of SSEQ on ADC20 (R153): raise what PEND recorded, else ST ← Idle and OK. -/
def endSequence20 (count : Byte) (s : State) : State :=
  if s.pend = .ok then finish .ok 0 count { s with st := .idle } else raise s.pend s

/-- The body of SSEQ on ADC20 (R153, R154): the argument checks in this order, the mask write, and then the stop
write always follows the attempt to start. -/
def bodySseq20 (stop count : Byte) (s : State) : State :=
  if stopLegal .adc20 stop then
    if countLegal stop count then
      let s := latchMask (seqMask stop.toNat) { s with st := .sequencing, pend := .ok }
      orIoError (regWrite20 s.cfg.regAutoSeqChSel s.lat.mask s) fun s _ =>
      endSequence20 count (stopWrite20 (startAndRead20 count s))
    else raise .invalidArgument s
  else raise .invalidArgument s

/-- INIT chid on ADC20 (R145). -/
def execInit20 (chid : Bool) (s : State) : Host.Outcome State Fault Refusal :=
  command (decide (s.family = .adc20)) (encodeWord (.init20 chid)) (bodyInit20 chid) s

/-- SETAVG ratio (R146); Illegal on ADC24 (R85 d). -/
def execSetavg (ratio : Byte) (s : State) : Host.Outcome State Fault Refusal :=
  command (decide (s.family = .adc20)) (encodeWord (.setavg ratio)) (bodySetavg ratio) s

/-- MODECFG ratio: another name of SETAVG ratio (R92). -/
def execModecfgRatio (ratio : Byte) (s : State) : Host.Outcome State Fault Refusal :=
  command (decide (s.family = .adc20)) (encodeWord (.modecfgRatio ratio)) (bodySetavg ratio) s

/-- SMAN ch on ADC20 (R150). -/
def execSman20 (ch : Byte) (s : State) : Host.Outcome State Fault Refusal :=
  command (decide (s.family = .adc20)) (encodeWord (.sman20 ch)) (bodySman20 ch) s

/-- SSEQ stop, count on ADC20 (R153). -/
def execSseq20 (stop count : Byte) (s : State) : Host.Outcome State Fault Refusal :=
  command (decide (s.family = .adc20)) (encodeWord (.sseq20 stop count)) (bodySseq20 stop count) s

end Sys2Proof.Machine
end

