-- ==== Sys2Proof/Machine/Acquire24.lean ====
section
/-! DEFINITION. The ADC24 acquisition state machine: INIT, SMAN, SSEQ (spec/43_acquisition_adc24.md R170 to R180). -/

namespace Sys2Proof.Machine

/-- The body of INIT on ADC24 (R171): two all-ones frames and no control word. -/
def bodyInit24 (s : State) : State :=
  orIoError (preamble24 s) fun s _ =>
  orIoError (preamble24 s) fun s _ =>
  finish .ok 0 0 { s with st := .configured, inited := true }

/-- The body of SMAN on ADC24 (R175): the control write, whose frame is discarded, then one read transfer. -/
def bodySman24 (ch : Byte) (s : State) : State :=
  if channelLegal .adc24 ch then
    let s := latchCw (channelWord s.cfg.baseManual (ch.extractLsb' 0 4)) { s with st := .manual }
    orIoError (ctlWrite24 s.lat.cw s) fun s _ =>
    orIoError (frame24 s) fun s fr =>
    let r := sampleOf s.cfg .adc24 fr 0
    finish .ok r.mv 1 (emit r s)
  else raise .invalidArgument s

/-- The read transfers of SSEQ on ADC24 (R178): `n` frames from frame `i` on; a failure ends them. -/
def readLoop24 : Nat → Byte → State → State × Option Unit
  | 0, _, s => (s, some ())
  | n + 1, i, s =>
    match frame24 s with
    | (s, none) => (s, none)
    | (s, some fr) => readLoop24 n (i + 1) (emit (sampleOf s.cfg .adc24 fr i) s)

/-- The body of SSEQ on ADC24 (R178, R179): the argument checks in this order, one control write, `count` read
transfers, no stop write. -/
def bodySseq24 (stop count : Byte) (s : State) : State :=
  if stopLegal .adc24 stop then
    if countLegal stop count then
      let s := latchCw (channelWord s.cfg.baseSeq (stop.extractLsb' 0 4)) { s with st := .sequencing }
      orIoError (ctlWrite24 s.lat.cw s) fun s _ =>
      orIoError (readLoop24 count.toNat 0 s) fun s _ =>
      finish .ok 0 count { s with st := .idle }
    else raise .invalidArgument s
  else raise .invalidArgument s

/-- INIT on ADC24 (R171). -/
def execInit24 (s : State) : Host.Outcome State Fault Refusal :=
  command (decide (s.family = .adc24)) (encodeWord .init24) bodyInit24 s

/-- SMAN ch on ADC24 (R175). -/
def execSman24 (ch : Byte) (s : State) : Host.Outcome State Fault Refusal :=
  command (decide (s.family = .adc24)) (encodeWord (.sman24 ch)) (bodySman24 ch) s

/-- SSEQ stop, count on ADC24 (R178). -/
def execSseq24 (stop count : Byte) (s : State) : Host.Outcome State Fault Refusal :=
  command (decide (s.family = .adc24)) (encodeWord (.sseq24 stop count)) (bodySseq24 stop count) s

end Sys2Proof.Machine
end

