-- ==== Sys2Proof/Machine/Control24.lean ====
section
/-! DEFINITION. The ADC24 register protocol: WCTL and the alias MODECFG word12 (spec/41_register_protocol_adc24.md
R130 to R132, spec/30_encoding.md R92). -/

namespace Sys2Proof.Machine

/-- The body of WCTL (R132): RESULT ← the 16-bit frame received during the write, undecoded. -/
def bodyWctl (word12 : BitVec 12) (s : State) : State :=
  orIoError (ctlWrite24 word12 s) fun s rx => finish .ok ((rxFrame rx).setWidth 32) 0 s

/-- WCTL word12 (R132); Illegal on ADC20 (R130). -/
def execWctl (word12 : BitVec 12) (s : State) : Host.Outcome State Fault Refusal :=
  command (decide (s.family = .adc24)) (encodeWord (.wctl word12)) (bodyWctl word12) s

/-- MODECFG word12: another name of WCTL word12 (R92). -/
def execModecfgWord12 (word12 : BitVec 12) (s : State) : Host.Outcome State Fault Refusal :=
  command (decide (s.family = .adc24)) (encodeWord (.modecfgWord12 word12)) (bodyWctl word12) s

end Sys2Proof.Machine
end

