-- ==== Sys2Proof/Machine/Pure.lean ====
section
/-! DEFINITION. The commands of both families: TOMV (spec/44_converter.md R192), CHKID
(spec/45_channel_id_validator.md R203), the alias one-operand SSEQ (spec/30_encoding.md R92), and the seven reserved
opcodes (R85, R86). -/

namespace Sys2Proof.Machine

/-- The body of TOMV (R192): it reads FAMILY for the range and issues no exchange. -/
def bodyTomv (res : Resolution) (code16 : Half) (s : State) : State :=
  finish .ok (millivolts s.cfg s.family code16 res) 0 s

/-- The body of CHKID (R203): it always compares, and a mismatch is RESULT = 0 with OK. -/
def bodyChkid (expected : Byte) (nib : BitVec 4) (s : State) : State :=
  finish .ok (if chidOk true nib expected then 1 else 0) 0 s

/-- The body of one-operand SSEQ (R92): SSEQ stop, stop + 1 of the block's family. -/
def bodySseqStop (stop : Byte) (s : State) : State :=
  match s.family with
  | .adc20 => bodySseq20 stop (stop + 1) s
  | .adc24 => bodySseq24 stop (stop + 1) s

/-- TOMV res, code16 (R192), on both families. -/
def execTomv (res : Resolution) (code16 : Half) (s : State) : Host.Outcome State Fault Refusal :=
  command true (encodeWord (.tomv res code16)) (bodyTomv res code16) s

/-- CHKID exp, nib (R203), on both families. -/
def execChkid (expected : Byte) (nib : BitVec 4) (s : State) : Host.Outcome State Fault Refusal :=
  command true (encodeWord (.chkid expected nib)) (bodyChkid expected nib) s

/-- SSEQ stop: another name of SSEQ stop, stop + 1 (R92). -/
def execSseqStop (stop : Byte) (s : State) : Host.Outcome State Fault Refusal :=
  command true (encodeWord (.sseqStop stop)) (bodySseqStop stop) s

/-- Reserved opcode 0x0: IllegalCommand, no exchange (R85 a, R86, R213). -/
def execIllegalOpc0 (rest : BitVec 28) (s : State) : Host.Outcome State Fault Refusal :=
  illegalWord (encodeWord (.illegalOpc0 rest)) s

/-- Reserved opcode 0xA: IllegalCommand, no exchange (R85 a, R86, R213). -/
def execIllegalOpcA (rest : BitVec 28) (s : State) : Host.Outcome State Fault Refusal :=
  illegalWord (encodeWord (.illegalOpcA rest)) s

/-- Reserved opcode 0xB: IllegalCommand, no exchange (R85 a, R86, R213). -/
def execIllegalOpcB (rest : BitVec 28) (s : State) : Host.Outcome State Fault Refusal :=
  illegalWord (encodeWord (.illegalOpcB rest)) s

/-- Reserved opcode 0xC: IllegalCommand, no exchange (R85 a, R86, R213). -/
def execIllegalOpcC (rest : BitVec 28) (s : State) : Host.Outcome State Fault Refusal :=
  illegalWord (encodeWord (.illegalOpcC rest)) s

/-- Reserved opcode 0xD: IllegalCommand, no exchange (R85 a, R86, R213). -/
def execIllegalOpcD (rest : BitVec 28) (s : State) : Host.Outcome State Fault Refusal :=
  illegalWord (encodeWord (.illegalOpcD rest)) s

/-- Reserved opcode 0xE: IllegalCommand, no exchange (R85 a, R86, R213). -/
def execIllegalOpcE (rest : BitVec 28) (s : State) : Host.Outcome State Fault Refusal :=
  illegalWord (encodeWord (.illegalOpcE rest)) s

/-- Reserved opcode 0xF: IllegalCommand, no exchange (R85 a, R86, R213). -/
def execIllegalOpcF (rest : BitVec 28) (s : State) : Host.Outcome State Fault Refusal :=
  illegalWord (encodeWord (.illegalOpcF rest)) s

end Sys2Proof.Machine
end

