-- ==== Sys2Proof/Machine/Register20.lean ====
section
/-! DEFINITION. The ADC20 register protocol: WREG, RREG and the alias READRAW (spec/40_register_protocol_adc20.md
R120 to R124, spec/30_encoding.md R92). -/

namespace Sys2Proof.Machine

/-- The body of WREG (R122). -/
def bodyWreg (addr value : Byte) (s : State) : State :=
  orIoError (regWrite20 addr value s) fun s _ => finish .ok 0 0 s

/-- The body of RREG (R124, R123): RESULT ← the byte of the second exchange, zero-extended. -/
def bodyRreg (addr : Byte) (s : State) : State :=
  orIoError (regReadFirst addr s) fun s _ =>
  orIoError (regReadSecond s) fun s rx =>
  finish .ok ((rx.getD 0 0).setWidth 32) 0 s

/-- WREG addr, value (R122); Illegal on ADC24 (R120). -/
def execWreg (addr value : Byte) (s : State) : Host.Outcome State Fault Refusal :=
  command (decide (s.family = .adc20)) (encodeWord (.wreg addr value)) (bodyWreg addr value) s

/-- RREG addr (R124); Illegal on ADC24 (R120). -/
def execRreg (addr : Byte) (s : State) : Host.Outcome State Fault Refusal :=
  command (decide (s.family = .adc20)) (encodeWord (.rreg addr)) (bodyRreg addr) s

/-- READRAW addr: another name of RREG addr (R92). -/
def execReadraw (addr : Byte) (s : State) : Host.Outcome State Fault Refusal :=
  command (decide (s.family = .adc20)) (encodeWord (.readraw addr)) (bodyRreg addr) s

end Sys2Proof.Machine
end

