-- ==== Sys2Proof/Machine/Wire.lean ====
section
/-! DEFINITION. The thirteen wire-frame rows as the engine's primitives (spec/30_encoding.md R95 to R104): a transmit
row issues its exchange and leaves what it received in the latch (a failure raises IoError, as the primitive's
pseudocode says); a receive row decodes the frame it stands for; the control-word and mask rows build their value. -/

namespace Sys2Proof.Machine

/-- W20 (R95): the exchange of RegWrite20 (R121). -/
def execW20 (addr value : Byte) (s : State) : Host.Outcome State Fault Refusal :=
  primitive .adc20 (fun s => exchangeOnly (regWrite20 addr value s)) s

/-- R20a (R96): the first exchange of RegRead20 (R123), chip-select held. -/
def execR20a (addr : Byte) (s : State) : Host.Outcome State Fault Refusal :=
  primitive .adc20 (fun s => exchangeOnly (regReadFirst addr s)) s

/-- R20b (R96): the second exchange of RegRead20 (R123); the byte received is the register value. -/
def execR20b (s : State) : Host.Outcome State Fault Refusal :=
  primitive .adc20 (fun s => exchangeOnly (regReadSecond s)) s

/-- F20 (R97): one read cycle, Cycle20 (R142). -/
def execF20 (s : State) : Host.Outcome State Fault Refusal :=
  primitive .adc20 (fun s => exchangeOnly (cycle20 s)) s

/-- The decode of three received bytes as Frame20 does it (R143, R105): OSR decides which of the two layouts is
read. -/
def receive20 (v : BitVec 24) (s : State) : State :=
  (decode20 [byte1 v, byte2 v, byte3 v] (latchRx [byte1 v, byte2 v, byte3 v] s)).1

/-- F20_RX12 (R98): a conversion frame laid out for 12-bit mode is received and decoded. -/
def execF20Rx12 (code : BitVec 12) (nib : BitVec 4) (ignored : Byte) (s : State) :
    Host.Outcome State Fault Refusal :=
  primitive .adc20 (receive20 (layout12 code nib ignored)) s

/-- F20_RX16 (R99): a conversion frame laid out for 16-bit mode is received and decoded. -/
def execF20Rx16 (code : Half) (nib : BitVec 4) (ignored : BitVec 4) (s : State) :
    Host.Outcome State Fault Refusal :=
  primitive .adc20 (receive20 (layout16 code nib ignored)) s

/-- C24 (R102): the exchange of CtlWrite24 (R131). -/
def execC24 (cw : BitVec 12) (s : State) : Host.Outcome State Fault Refusal :=
  primitive .adc24 (fun s => exchangeOnly (ctlWrite24 cw s)) s

/-- CW12_MANUAL (R101): the manual-mode control word of a channel is built. -/
def execCw12Manual (ch : BitVec 4) (s : State) : Host.Outcome State Fault Refusal :=
  primitive .adc24 (fun s => latchCw (channelWord s.cfg.baseManual ch) s) s

/-- CW12_SEQ (R101): the sequence-mode control word of a stop channel is built. -/
def execCw12Seq (stop : BitVec 4) (s : State) : Host.Outcome State Fault Refusal :=
  primitive .adc24 (fun s => latchCw (channelWord s.cfg.baseSeq stop) s) s

/-- P24 (R103): one preamble frame (R171). -/
def execP24 (s : State) : Host.Outcome State Fault Refusal :=
  primitive .adc24 (fun s => exchangeOnly (preamble24 s)) s

/-- F24 (R104): one read transfer, Xfer24 (R172). -/
def execF24 (s : State) : Host.Outcome State Fault Refusal :=
  primitive .adc24 (fun s => exchangeOnly (xfer24 s)) s

/-- F24_RX (R104): a conversion frame is received and decoded as Frame24 does it (R173, R174). -/
def execF24Rx (ignored : BitVec 4) (code : BitVec 12) (s : State) : Host.Outcome State Fault Refusal :=
  primitive .adc24
    (fun s => (decode24 (frameBytes (layout24 ignored code)) (latchRx (frameBytes (layout24 ignored code)) s)).1) s

/-- MASK20 (R100): the auto-sequence mask of a stop channel is built. -/
def execMask20 (stop : BitVec 3) (s : State) : Host.Outcome State Fault Refusal :=
  primitive .adc20 (latchMask (seqMask stop.toNat)) s

end Sys2Proof.Machine
end

