-- ==== Sys2Proof/Machine/Dispatch.lean ====
section
/-! DEFINITION. The dispatch: one arm per constructor of Instr, one direct call of its meaning. -/

namespace Sys2Proof.Machine

def exec (i : Instr) (s : State) : Host.Outcome State Fault Refusal :=
  match i with
  | .init20 chid => Sys2Proof.Machine.execInit20 chid s
  | .init24 => Sys2Proof.Machine.execInit24 s
  | .setavg ratio => Sys2Proof.Machine.execSetavg ratio s
  | .sman20 ch => Sys2Proof.Machine.execSman20 ch s
  | .sman24 ch => Sys2Proof.Machine.execSman24 ch s
  | .sseq20 stop count => Sys2Proof.Machine.execSseq20 stop count s
  | .sseq24 stop count => Sys2Proof.Machine.execSseq24 stop count s
  | .wreg addr value => Sys2Proof.Machine.execWreg addr value s
  | .rreg addr => Sys2Proof.Machine.execRreg addr s
  | .wctl word12 => Sys2Proof.Machine.execWctl word12 s
  | .tomv res code16 => Sys2Proof.Machine.execTomv res code16 s
  | .chkid expected nib => Sys2Proof.Machine.execChkid expected nib s
  | .illegalOpc0 rest => Sys2Proof.Machine.execIllegalOpc0 rest s
  | .illegalOpcA rest => Sys2Proof.Machine.execIllegalOpcA rest s
  | .illegalOpcB rest => Sys2Proof.Machine.execIllegalOpcB rest s
  | .illegalOpcC rest => Sys2Proof.Machine.execIllegalOpcC rest s
  | .illegalOpcD rest => Sys2Proof.Machine.execIllegalOpcD rest s
  | .illegalOpcE rest => Sys2Proof.Machine.execIllegalOpcE rest s
  | .illegalOpcF rest => Sys2Proof.Machine.execIllegalOpcF rest s
  | .readraw addr => Sys2Proof.Machine.execReadraw addr s
  | .modecfgRatio ratio => Sys2Proof.Machine.execModecfgRatio ratio s
  | .modecfgWord12 word12 => Sys2Proof.Machine.execModecfgWord12 word12 s
  | .sseqStop stop => Sys2Proof.Machine.execSseqStop stop s
  | .w20 addr value => Sys2Proof.Machine.execW20 addr value s
  | .r20a addr => Sys2Proof.Machine.execR20a addr s
  | .r20b => Sys2Proof.Machine.execR20b s
  | .f20 => Sys2Proof.Machine.execF20 s
  | .f20Rx12 code nib ignored => Sys2Proof.Machine.execF20Rx12 code nib ignored s
  | .f20Rx16 code nib ignored => Sys2Proof.Machine.execF20Rx16 code nib ignored s
  | .c24 cw12 => Sys2Proof.Machine.execC24 cw12 s
  | .cw12Manual ch => Sys2Proof.Machine.execCw12Manual ch s
  | .cw12Seq stop => Sys2Proof.Machine.execCw12Seq stop s
  | .p24 => Sys2Proof.Machine.execP24 s
  | .f24 => Sys2Proof.Machine.execF24 s
  | .f24Rx ignored code => Sys2Proof.Machine.execF24Rx ignored code s
  | .mask20 stop => Sys2Proof.Machine.execMask20 stop s

end Sys2Proof.Machine
end

