-- ==== Sys2Proof/Machine/Step.lean ====
section
/-! DEFINITION. The step: what the host presents next is taken from the port and run to completion
(spec/30_encoding.md R80, spec/10_state.md R27). -/

namespace Sys2Proof.Machine

/-- One step. With nothing at the port the block waits (R240: "after reset the block waits for a command"). A
command word runs from acceptance to completion in this one step (R27: a big-step model). -/
def step (s : State) : Host.Outcome State Fault Refusal :=
  match s.port with
  | [] => .next s
  | .reset :: _ => resetRequest (takeRequest s)
  | .code c :: _ =>
    match decodeCode s.cfg s.family c with
    | .ok i => exec i (takeRequest s)
    | .error _ => undecodable c (takeRequest s)

/-- The code of an instruction, its bits numbered as spec/opcode_table.json numbers them, placed first at the port,
on a block of the family that has the row (a word of the other family alone straps the block to that family:
notes/assumptions/5.md). Nothing else changes. -/
def State.withFetchWord (s : State) (nbits w : Nat) : State :=
  { s with
    family := familyFor s.cfg s.family (tableCode s.cfg nbits w)
    port := .code (tableCode s.cfg nbits w) :: s.port }

end Sys2Proof.Machine
end

