-- ==== Sys2Proof/Machine/Assembler.lean ====
section
/-! DEFINITION. The textual form of a command (spec/30_encoding.md R91) and its pseudo-instructions (R92): a line of
characters to a 32-bit command word. The assembler refuses an operand that does not fit its field. -/

namespace Sys2Proof.Machine

/-- The mnemonics of R91 and R92. -/
inductive Mnemonic where
  | INIT | SETAVG | SMAN | SSEQ | WREG | RREG | WCTL | TOMV | CHKID | READRAW | MODECFG
  deriving DecidableEq, Repr

/-- How each mnemonic is spelt. -/
def spelling : Mnemonic → List Char
  | .INIT => ['I', 'N', 'I', 'T']
  | .SETAVG => ['S', 'E', 'T', 'A', 'V', 'G']
  | .SMAN => ['S', 'M', 'A', 'N']
  | .SSEQ => ['S', 'S', 'E', 'Q']
  | .WREG => ['W', 'R', 'E', 'G']
  | .RREG => ['R', 'R', 'E', 'G']
  | .WCTL => ['W', 'C', 'T', 'L']
  | .TOMV => ['T', 'O', 'M', 'V']
  | .CHKID => ['C', 'H', 'K', 'I', 'D']
  | .READRAW => ['R', 'E', 'A', 'D', 'R', 'A', 'W']
  | .MODECFG => ['M', 'O', 'D', 'E', 'C', 'F', 'G']

/-- All mnemonics. -/
def allMnemonics : List Mnemonic :=
  [.INIT, .SETAVG, .SMAN, .SSEQ, .WREG, .RREG, .WCTL, .TOMV, .CHKID, .READRAW, .MODECFG]

/-- An unsigned operand that fits `n` bits (R91). -/
def fitUnsigned (n : Nat) (x : Int) : Option (BitVec n) :=
  if 0 ≤ x ∧ x < 2 ^ n then some (BitVec.ofInt n x) else none

/-- A code16 operand: -32768 to 65535, a negative one as its two's complement (R91). -/
def fitCode16 (x : Int) : Option Half :=
  if -32768 ≤ x ∧ x ≤ 65535 then some (BitVec.ofInt 16 x) else none

/-- The instruction whose word a mnemonic with its operands assembles to. `SMAN` and `SSEQ` have one word for both
families, and so has `INIT` without operand; `MODECFG` is SETAVG on ADC20 and WCTL on ADC24 (R92). -/
def assembleInstr (fam : Family) (m : Mnemonic) (ops : List Int) : Option Instr :=
  match m, ops with
  | .INIT, [] => some .init24
  | .INIT, [c] => (fitUnsigned 1 c).map fun c => .init20 (c.getLsbD 0)
  | .SETAVG, [r] => (fitUnsigned 8 r).map .setavg
  | .SMAN, [c] => (fitUnsigned 8 c).map .sman20
  | .SSEQ, [s] =>
    match fitUnsigned 8 s, fitUnsigned 8 (s + 1) with
    | some s, some _ => some (.sseqStop s)
    | _, _ => none
  | .SSEQ, [s, c] =>
    match fitUnsigned 8 s, fitUnsigned 8 c with
    | some s, some c => some (.sseq20 s c)
    | _, _ => none
  | .WREG, [a, v] =>
    match fitUnsigned 8 a, fitUnsigned 8 v with
    | some a, some v => some (.wreg a v)
    | _, _ => none
  | .RREG, [a] => (fitUnsigned 8 a).map .rreg
  | .READRAW, [a] => (fitUnsigned 8 a).map .readraw
  | .WCTL, [w] => (fitUnsigned 12 w).map .wctl
  | .MODECFG, [x] =>
    match fam with
    | .adc20 => (fitUnsigned 8 x).map .modecfgRatio
    | .adc24 => (fitUnsigned 12 x).map .modecfgWord12
  | .TOMV, [r, c] =>
    match fitUnsigned 1 r, fitCode16 c with
    | some r, some c => some (.tomv (if r.getLsbD 0 then .bits16 else .bits12) c)
    | _, _ => none
  | .CHKID, [e, n] =>
    match fitUnsigned 8 e, fitUnsigned 4 n with
    | some e, some n => some (.chkid e n)
    | _, _ => none
  | _, _ => none

/-- The word of a mnemonic with its operands (R91), none where the assembler refuses. -/
def assemble (fam : Family) (m : Mnemonic) (ops : List Int) : Option Word :=
  (assembleInstr fam m ops).map encodeWord

/-! ### Text -/

/-- A comment runs from `;` to the end of the line. -/
def stripComment : List Char → List Char
  | [] => []
  | c :: cs => if c = ';' then [] else c :: stripComment cs

/-- Is this a blank between tokens? -/
def isBlank (c : Char) : Bool := c = ' ' || c = '\t' || c = '\r'

/-- Blank-separated tokens, a comma a token of its own; `cur` is the token being read, reversed. -/
def tokens (cur : List Char) : List Char → List (List Char)
  | [] => if cur = [] then [] else [cur.reverse]
  | c :: cs =>
    if isBlank c then (if cur = [] then tokens [] cs else cur.reverse :: tokens [] cs)
    else if c = ',' then (if cur = [] then [','] :: tokens [] cs else cur.reverse :: [','] :: tokens [] cs)
    else tokens (c :: cur) cs

/-- The value of a digit in a base of 10 or 16. -/
def digitValue (base : Nat) (c : Char) : Option Nat :=
  let v :=
    if '0'.toNat ≤ c.toNat ∧ c.toNat ≤ '9'.toNat then c.toNat - '0'.toNat
    else if 'A'.toNat ≤ c.toNat ∧ c.toNat ≤ 'F'.toNat then c.toNat - 'A'.toNat + 10
    else if 'a'.toNat ≤ c.toNat ∧ c.toNat ≤ 'f'.toNat then c.toNat - 'a'.toNat + 10
    else 16
  if v < base then some v else none

/-- A run of digits, most significant first, onto the value so far. -/
def digits (base : Nat) (acc : Nat) : List Char → Option Nat
  | [] => some acc
  | c :: cs =>
    match digitValue base c with
    | some v => digits base (acc * base + v) cs
    | none => none

/-- An unsigned number in decimal or 0x hexadecimal (R91). -/
def unsignedNumber : List Char → Option Nat
  | [] => none
  | [c] => digits 10 0 [c]
  | c :: d :: cs =>
    if c = '0' ∧ d = 'x' then (if cs = [] then none else digits 16 0 cs) else digits 10 0 (c :: d :: cs)

/-- A number, with a minus sign before it where it is negative. -/
def number : List Char → Option Int
  | [] => none
  | c :: cs => if c = '-' then (unsignedNumber cs).map fun n => -(n : Int) else (unsignedNumber (c :: cs)).map (↑·)

/-- Operands, comma separated. -/
def operands : List (List Char) → Option (List Int)
  | [] => some []
  | [t] => (number t).map fun x => [x]
  | t :: comma :: rest =>
    if comma = [','] ∧ rest ≠ [] then
      match number t, operands rest with
      | some x, some xs => some (x :: xs)
      | _, _ => none
    else none

/-- A line of assembly text (R91): none where it is refused, `some none` for a line with no command. -/
def assembleLine (fam : Family) (line : List Char) : Option (Option Word) :=
  match tokens [] (stripComment line) with
  | [] => some none
  | t :: rest =>
    match allMnemonics.find? (fun m => decide (spelling m = t)), operands rest with
    | some m, some ops => (assemble fam m ops).map some
    | _, _ => none

end Sys2Proof.Machine
end

