-- ==== Sys2Proof/Safety.lean ====
section
/-! DEFINITION. The terms that statements are made in: the invariant of spec/10_state.md R41, the observation of a run
(spec/00_scope.md R16), the exchanges a block may issue (spec/20_memory.md R51, R52), what the block has written to a
chip register (R36), and the two properties of a Transport that the spec states as assumptions (R125, R133). -/

namespace Sys2Proof.Machine

/-! ### The invariant -/

/-- A sample that a block of this family can deliver (R25, R41): the code's range by resolution, no channel ID on
ADC24, a nibble only with CHIDV, and MV the converter's value of the code. -/
abbrev recordOk (cfg : Cfg) (fam : Family) (r : Sample) : Prop :=
  (fam = .adc20 → r.res = .bits12 → r.raw ≤ 0x0FFF#16) ∧
  (fam = .adc24 → r.res = .bits12 ∧ (r.raw ≤ 0x07FF#16 ∨ 0xF800#16 ≤ r.raw) ∧ r.chidv = false) ∧
  (r.chidv = false → r.chid = 0#4) ∧
  r.mv = millivolts cfg fam r.raw r.res

/-- The last-sample registers as a record (R25). -/
def lastSample (s : State) : Sample where
  seqIdx := 0
  raw := s.raw
  res := s.res
  chidv := s.chidv
  chid := s.chid
  mv := s.mv

/-- The status of the last command to complete (R16, R89), none before the first. -/
def lastStatus (s : State) : Option Status := s.responses.getLast?.map (·.status)

/-- Between commands (R41): BUSY = 0, ST is not Sequencing, the last-sample registers and every record of OUT are
samples of this family, on ADC24 OSR and CHID_EN stand at their reset values (R31, R32), and INITED = 1 only where the
last command to complete did not end the session with IoError or ProtocolDesync. The last is the state form of R41's
clause on INITED: which command set INITED again is not in the state (only an INIT can: `initedAfterOk`). -/
abbrev inv (s : State) : Prop :=
  s.busy = false ∧ s.st ≠ .sequencing ∧ recordOk s.cfg s.family (lastSample s) ∧
  (∀ r ∈ s.out, recordOk s.cfg s.family r) ∧
  (s.family = .adc24 → s.osr = 0#3 ∧ s.chidEn = false) ∧
  (s.inited = true → lastStatus s ≠ some .ioError ∧ lastStatus s ≠ some .protocolDesync)

/-! ### The observation -/

/-- What a run shows (R16): the trace, the sample stream, the responses. -/
structure Observation where
  trace : List Event
  out : List Sample
  responses : List Response
  deriving DecidableEq, Repr

/-- The observation of the run that led to a state. -/
def observe (s : State) : Observation where
  trace := s.trace
  out := s.out
  responses := s.responses

/-- The events that stand in `t`'s trace past the length of `s`'s. -/
def newEvents (s t : State) : List Event := t.trace.drop s.trace.length

/-- The records that stand in `t`'s OUT past the length of `s`'s. -/
def newRecords (s t : State) : List Sample := t.out.drop s.out.length

/-! ### What a command leaves -/

/-- The bytes of the last answered exchange of a list, `d` where none was answered. -/
def lastRx (d : List Byte) : List Event → List Byte
  | [] => d
  | e :: es => lastRx (e.rx.getD d) es

/-- `s` after a command whose word is `w`, which issued exactly the exchanges `evs`, delivered exactly the records
`rs`, and completed with this status and result. EVERYTHING ELSE IS AS IN `s`; what a command changes besides (ST,
INITED, OSR, CHID_EN, PEND, the other latches) a statement says as an update of this. -/
def completed (s : State) (w : Word) (status : Status) (result : Word) (evs : List Event) (rs : List Sample) :
    State :=
  { s with
    busy := false, opw := w, stepNo := BitVec.ofNat 8 evs.length, idx := BitVec.ofNat 8 rs.length, pend := .ok
    status := status, result := result, nsamp := BitVec.ofNat 8 rs.length
    responses := s.responses ++ [{ status := status, result := result, nsamp := BitVec.ofNat 8 rs.length }]
    trace := s.trace ++ evs, answers := s.answers.drop evs.length
    out := s.out ++ rs
    raw := (rs.getLast?.map (·.raw)).getD s.raw
    res := (rs.getLast?.map (·.res)).getD s.res
    chidv := (rs.getLast?.map (·.chidv)).getD s.chidv
    chid := (rs.getLast?.map (·.chid)).getD s.chid
    mv := (rs.getLast?.map (·.mv)).getD s.mv
    lat := { s.lat with rx := lastRx s.lat.rx evs } }

/-- What the oracle gives to an exchange issued after the exchanges `done` of a run from `s` (R54): the next listed
answer or the free value, Fail where its length is wrong. -/
def ask (s : State) (done : List Event) (tx : List Byte) (hold : Bool) : Option (List Byte) :=
  received tx.length
    (nextAnswer tx hold { s with trace := s.trace ++ done, answers := s.answers.drop done.length })

/-- From `s`, after the exchanges `done`, the oracle answers the exchanges `es` as they record. -/
def getsAfter (s : State) (done : List Event) : List Event → Bool
  | [] => true
  | e :: es => decide (ask s done e.tx e.hold = e.rx) && getsAfter s (done ++ [e]) es

/-- From `s` the oracle answers the exchanges `es`, in this order, as they record. Whatever `s` is, some answers are
the ones it gets: the hypothesis names them. -/
def gets (s : State) (es : List Event) : Bool := getsAfter s [] es

/-- A session that an error ended: ST = Idle, INITED = 0 (R212, R215, R216). -/
def lostSession (s : State) : State := { s with st := .idle, inited := false }

/-- The event of an ADC20 register write (R95) that got this answer. -/
def writeEvent (cfg : Cfg) (addr value : Byte) (rx : Option (List Byte)) : Event where
  tx := [cfg.writeCmd, addr, value]
  hold := false
  rx := rx

/-- The event of the first exchange of a register read (R96): chip-select held. -/
def readFirstEvent (cfg : Cfg) (addr : Byte) (rx : Option (List Byte)) : Event where
  tx := [cfg.readCmd, addr, cfg.dummy]
  hold := true
  rx := rx

/-- The event of the second exchange of a register read (R96). -/
def readSecondEvent (cfg : Cfg) (rx : Option (List Byte)) : Event where
  tx := [cfg.dummy]
  hold := false
  rx := rx

/-- The event of an ADC20 read cycle (R97). -/
def cycleEvent (cfg : Cfg) (rx : Option (List Byte)) : Event where
  tx := [cfg.dummy, cfg.dummy, cfg.dummy]
  hold := false
  rx := rx

/-- The event of an ADC24 control write (R102). -/
def controlEvent (cfg : Cfg) (cw : BitVec 12) (rx : Option (List Byte)) : Event where
  tx := frameBytes (controlFrame cfg.cwShift cw)
  hold := false
  rx := rx

/-- The event of an ADC24 read transfer (R104). -/
def transferEvent (cfg : Cfg) (rx : Option (List Byte)) : Event where
  tx := frameBytes cfg.readTx
  hold := false
  rx := rx

/-- The event of an ADC24 preamble frame (R103). -/
def preambleEvent (rx : Option (List Byte)) : Event where
  tx := [0xFF, 0xFF]
  hold := false
  rx := rx

/-- `s` after one exchange issued by itself, as a wire-frame row issues it: answered, it joins the trace and its bytes
the latch; failed, it raises IoError (R216). -/
def afterExchange (s : State) (e : Event) : State :=
  match e.rx with
  | some rx =>
    { s with
      trace := s.trace ++ [e], answers := s.answers.tail, stepNo := s.stepNo + 1, lat := { s.lat with rx := rx } }
  | none =>
    { s with
      trace := s.trace ++ [e], answers := s.answers.tail, stepNo := s.stepNo + 1
      st := .idle, inited := false, busy := false
      status := .ioError, result := 0, nsamp := s.idx
      responses := s.responses ++ [{ status := .ioError, result := 0, nsamp := s.idx }] }

/-- The records of the first frames of an ADC20 sequence, in frame order (R153): frame `i` gives SEQ_IDX `i`. -/
def records20 (s : State) (frames : List (Byte × Byte × Byte)) : List Sample :=
  frames.mapIdx fun i f =>
    sampleOf s.cfg .adc20 (decodeFrame20 s.osr s.chidEn f.1 f.2.1 f.2.2) (BitVec.ofNat 8 i)

/-- The records of the first frames of an ADC24 sequence, in frame order (R178). -/
def records24 (s : State) (frames : List (Byte × Byte)) : List Sample :=
  frames.mapIdx fun i f => sampleOf s.cfg .adc24 (decodeFrame24 (pairFrame f.1 f.2)) (BitVec.ofNat 8 i)

/-- No channel-ID check fails on these frames of an ADC20 sequence (R201): the nibble of frame `i`, where frames
carry one, is `i`. -/
def idsMatch (s : State) (frames : List (Byte × Byte × Byte)) : Bool :=
  (frames.mapIdx fun i f =>
    let fr := decodeFrame20 s.osr s.chidEn f.1 f.2.1 f.2.2
    !fr.chidv || decide (fr.chid.toNat = i)).all id

/-- Which exchange of a sampling command, counted from 0, is its first sample-producing read: after the channel write
and the dummy cycle (R150), the mask and start writes (R153), the control write (R175, R178). Other rows sample
nothing. -/
def firstSampleRead (fam : Family) : Instr → Nat
  | .sman20 _ | .sseq20 _ _ => 2
  | .sman24 _ | .sseq24 _ _ => 1
  | .sseqStop _ => match fam with | .adc20 => 2 | .adc24 => 1
  | .init20 _ | .init24 | .setavg _ | .modecfgRatio _ | .wreg _ _ | .rreg _ | .readraw _ | .wctl _
  | .modecfgWord12 _ | .tomv _ _ | .chkid _ _ | .illegalOpc0 _ | .illegalOpcA _ | .illegalOpcB _ | .illegalOpcC _
  | .illegalOpcD _ | .illegalOpcE _ | .illegalOpcF _
  | .w20 _ _ | .r20a _ | .r20b | .f20 | .f20Rx12 _ _ _ | .f20Rx16 _ _ _ | .c24 _ | .cw12Manual _
  | .cw12Seq _ | .p24 | .f24 | .f24Rx _ _ | .mask20 _ => 0

/-- A record is the sample of one answered read (R142 to R144, R172, R173, R176): the event is a read cycle or a read
transfer of the block's family, and the record decodes its bytes under the caches of `s`, at stream index `k`. -/
def sampledFrom (s : State) (e : Event) (k : Nat) (r : Sample) : Prop :=
  match s.family with
  | .adc20 => ∃ r1 r2 r3 : Byte, e = cycleEvent s.cfg (some [r1, r2, r3]) ∧
      r = sampleOf s.cfg .adc20 (decodeFrame20 s.osr s.chidEn r1 r2 r3) (BitVec.ofNat 8 k)
  | .adc24 => ∃ r1 r2 : Byte, e = transferEvent s.cfg (some [r1, r2]) ∧
      r = sampleOf s.cfg .adc24 (decodeFrame24 (pairFrame r1 r2)) (BitVec.ofNat 8 k)

/-- The frame latched after these frames of an ADC20 sequence. -/
def lastFrame20 (s : State) (frames : List (Byte × Byte × Byte)) : Frame :=
  (frames.getLast?.map fun f => decodeFrame20 s.osr s.chidEn f.1 f.2.1 f.2.2).getD s.lat.fr

/-- The frame latched after these frames of an ADC24 sequence. -/
def lastFrame24 (s : State) (frames : List (Byte × Byte)) : Frame :=
  (frames.getLast?.map fun f => decodeFrame24 (pairFrame f.1 f.2)).getD s.lat.fr

/-! ### The opcode map (R84) -/

/-- One row of the table of R84. -/
structure OpcodeRow where
  /-- `none` for a row of both families. -/
  family : Option Family
  matchBits : Word
  mask : Word
  deriving DecidableEq, Repr

/-- The twelve rows of R84, in its order. -/
def opcodeMap : List OpcodeRow :=
  [{ family := some .adc20, matchBits := 0x10000000, mask := 0xFFFFFFFE },
   { family := some .adc24, matchBits := 0x10000000, mask := 0xFFFFFFFF },
   { family := some .adc20, matchBits := 0x20000000, mask := 0xFF00FFFF },
   { family := some .adc20, matchBits := 0x30000000, mask := 0xFF00FFFF },
   { family := some .adc24, matchBits := 0x30000000, mask := 0xFF00FFFF },
   { family := some .adc20, matchBits := 0x40000000, mask := 0xFF00FF00 },
   { family := some .adc24, matchBits := 0x40000000, mask := 0xFF00FF00 },
   { family := some .adc20, matchBits := 0x50000000, mask := 0xFF00FF00 },
   { family := some .adc20, matchBits := 0x60000000, mask := 0xFF00FFFF },
   { family := some .adc24, matchBits := 0x70000000, mask := 0xFFFFF000 },
   { family := none, matchBits := 0x80000000, mask := 0xFFFE0000 },
   { family := none, matchBits := 0x90000000, mask := 0xFF00FFF0 }]

/-- Which row of R84 an instruction's word belongs to: an alias to its core instruction's (R92); the one-operand
SSEQ stands in two rows and is given the ADC20 one. None for what is no row of R84. -/
def rowIndex : Instr → Option Nat
  | .init20 _ => some 0
  | .init24 => some 1
  | .setavg _ | .modecfgRatio _ => some 2
  | .sman20 _ => some 3
  | .sman24 _ => some 4
  | .sseq20 _ _ | .sseqStop _ => some 5
  | .sseq24 _ _ => some 6
  | .wreg _ _ => some 7
  | .rreg _ | .readraw _ => some 8
  | .wctl _ | .modecfgWord12 _ => some 9
  | .tomv _ _ => some 10
  | .chkid _ _ => some 11
  | .illegalOpc0 _ | .illegalOpcA _ | .illegalOpcB _ | .illegalOpcC _ | .illegalOpcD _ | .illegalOpcE _
  | .illegalOpcF _
  | .w20 _ _ | .r20a _ | .r20b | .f20 | .f20Rx12 _ _ _ | .f20Rx16 _ _ _ | .c24 _ | .cw12Manual _
  | .cw12Seq _ | .p24 | .f24 | .f24Rx _ _ | .mask20 _ => none

/-- A word selects a row iff it matches under the mask and the row's family condition holds (R84). -/
def OpcodeRow.selects (r : OpcodeRow) (fam : Family) (w : Word) : Bool :=
  decide (w &&& r.mask = r.matchBits) && (match r.family with | none => true | some f => decide (f = fam))

/-- How many exchanges an instruction's command issues in a run with no failure and no mismatch (R263, R42). -/
def exchangeCount : Instr → Nat
  | .init20 _ | .sman20 _ => 3
  | .init24 | .sman24 _ | .rreg _ | .readraw _ => 2
  | .setavg _ | .modecfgRatio _ | .wreg _ _ | .wctl _ | .modecfgWord12 _ => 1
  | .sseq20 _ count => count.toNat + 3
  | .sseq24 _ count => count.toNat + 1
  | .tomv _ _ | .chkid _ _ => 0
  | .illegalOpc0 _ | .illegalOpcA _ | .illegalOpcB _ | .illegalOpcC _ | .illegalOpcD _ | .illegalOpcE _
  | .illegalOpcF _ | .sseqStop _ | .cw12Manual _ | .cw12Seq _ | .f20Rx12 _ _ _ | .f20Rx16 _ _ _
  | .f24Rx _ _ | .mask20 _ => 0
  | .w20 _ _ | .r20a _ | .r20b | .f20 | .c24 _ | .p24 | .f24 => 1

/-- The bits of a command word, besides OPC and RSV, that an opcode's format requires to be zero (R82). -/
def mustBeZeroBits : Nat → Word
  | 1 => 0x00FFFFFE
  | 2 => 0x0000FFFF
  | 3 => 0x0000FFFF
  | 4 => 0x0000FF00
  | 5 => 0x0000FF00
  | 6 => 0x0000FFFF
  | 7 => 0x00FFF000
  | 8 => 0x00FE0000
  | 9 => 0x0000FFF0
  | _ => 0

/-- Is an operand out of its legal range on a block of this family (R211)? -/
def outOfRange (fam : Family) : Instr → Prop
  | .setavg ratio | .modecfgRatio ratio => 7 < ratio.toNat
  | .sman20 ch => 7 < ch.toNat
  | .sman24 ch => 15 < ch.toNat
  | .sseq20 stop count => stop.toNat < 1 ∨ 7 < stop.toNat ∨ count.toNat ≠ stop.toNat + 1
  | .sseq24 stop count => stop.toNat < 1 ∨ 15 < stop.toNat ∨ count.toNat ≠ stop.toNat + 1
  | .sseqStop stop => stop.toNat < 1 ∨ maxChannel fam < stop.toNat
  | .init20 _ | .init24 | .wreg _ _ | .rreg _ | .readraw _ | .wctl _ | .modecfgWord12 _ | .tomv _ _
  | .chkid _ _ | .illegalOpc0 _ | .illegalOpcA _ | .illegalOpcB _ | .illegalOpcC _ | .illegalOpcD _
  | .illegalOpcE _ | .illegalOpcF _
  | .w20 _ _ | .r20a _ | .r20b | .f20 | .f20Rx12 _ _ _ | .f20Rx16 _ _ _ | .c24 _ | .cw12Manual _
  | .cw12Seq _ | .p24 | .f24 | .f24Rx _ _ | .mask20 _ => False

/-- ST after a command that completed OK (R40): Configured after INIT, Manual after SMAN, Idle after SSEQ, else as
before. -/
def stAfterOk (before : AcqState) : Instr → AcqState
  | .init20 _ | .init24 => .configured
  | .sman20 _ | .sman24 _ => .manual
  | .sseq20 _ _ | .sseq24 _ _ | .sseqStop _ => .idle
  | .setavg _ | .modecfgRatio _ | .wreg _ _ | .rreg _ | .readraw _ | .wctl _ | .modecfgWord12 _ | .tomv _ _
  | .chkid _ _ | .illegalOpc0 _ | .illegalOpcA _ | .illegalOpcB _ | .illegalOpcC _ | .illegalOpcD _
  | .illegalOpcE _ | .illegalOpcF _
  | .w20 _ _ | .r20a _ | .r20b | .f20 | .f20Rx12 _ _ _ | .f20Rx16 _ _ _ | .c24 _ | .cw12Manual _
  | .cw12Seq _ | .p24 | .f24 | .f24Rx _ _ | .mask20 _ => before

/-- INITED after a command that completed OK (R40): 1 after INIT, else as before. -/
def initedAfterOk (before : Bool) : Instr → Bool
  | .init20 _ | .init24 => true
  | .sman20 _ | .sman24 _ | .sseq20 _ _ | .sseq24 _ _ | .sseqStop _
  | .setavg _ | .modecfgRatio _ | .wreg _ _ | .rreg _ | .readraw _ | .wctl _ | .modecfgWord12 _ | .tomv _ _
  | .chkid _ _ | .illegalOpc0 _ | .illegalOpcA _ | .illegalOpcB _ | .illegalOpcC _ | .illegalOpcD _
  | .illegalOpcE _ | .illegalOpcF _
  | .w20 _ _ | .r20a _ | .r20b | .f20 | .f20Rx12 _ _ _ | .f20Rx16 _ _ _ | .c24 _ | .cw12Manual _
  | .cw12Seq _ | .p24 | .f24 | .f24Rx _ _ | .mask20 _ => before

/-- The most sample records a command can deliver (R24): 1 for SMAN, count for SSEQ, 0 for every other. -/
def maxRecords : Instr → Nat
  | .sman20 _ | .sman24 _ => 1
  | .sseq20 _ count | .sseq24 _ count => count.toNat
  | .sseqStop stop => stop.toNat + 1
  | .init20 _ | .init24
  | .setavg _ | .modecfgRatio _ | .wreg _ _ | .rreg _ | .readraw _ | .wctl _ | .modecfgWord12 _ | .tomv _ _
  | .chkid _ _ | .illegalOpc0 _ | .illegalOpcA _ | .illegalOpcB _ | .illegalOpcC _ | .illegalOpcD _
  | .illegalOpcE _ | .illegalOpcF _
  | .w20 _ _ | .r20a _ | .r20b | .f20 | .f20Rx12 _ _ _ | .f20Rx16 _ _ _ | .c24 _ | .cw12Manual _
  | .cw12Seq _ | .p24 | .f24 | .f24Rx _ _ | .mask20 _ => 0

/-! ### The exchanges of a block -/

/-- The transmitted bytes and the hold bit of the exchanges that a block of this family issues: the list of R51. -/
def shapeOk (cfg : Cfg) (fam : Family) (e : Event) : Bool :=
  match fam, e.tx with
  | .adc20, [b1, _, b3] =>
    (decide (b1 = cfg.writeCmd) && !e.hold)
      || (decide (b1 = cfg.readCmd) && decide (b3 = cfg.dummy) && e.hold)
      || (decide (e.tx = [cfg.dummy, cfg.dummy, cfg.dummy]) && !e.hold)
  | .adc20, [b1] => decide (b1 = cfg.dummy) && !e.hold
  | .adc24, [b1, b2] =>
    !e.hold && (decide (pairFrame b1 b2 = 0xFFFF#16) || decide (pairFrame b1 b2 = cfg.readTx)
      || (match cfg.cwShift with
          | .left4 => decide (b2.extractLsb' 0 4 = 0#4)
          | .none0 => decide (b1.extractLsb' 4 4 = 0#4)))
  | _, _ => false

/-- Every exchange that was answered received as many bytes as it sent (R51). -/
def lengthOk (e : Event) : Bool :=
  match e.rx with
  | none => true
  | some rx => decide (rx.length = e.tx.length)

/-- Chained reads (R52): an exchange that held chip-select and was answered is followed at once by the one-byte
exchange that releases it, and no one-byte exchange stands elsewhere. -/
def chainedReadsOk (cfg : Cfg) : List Event → Bool
  | [] => true
  | [e] => !(e.hold && e.rx.isSome) && decide (e.tx.length ≠ 1)
  | e :: e' :: rest =>
    if e.hold && e.rx.isSome then
      decide (e'.tx = [cfg.dummy]) && !e'.hold && chainedReadsOk cfg rest
    else decide (e.tx.length ≠ 1) && chainedReadsOk cfg (e' :: rest)

/-- Do these events end on an answered exchange that held chip-select (R50, R52)? Where they end on a FAILED held
exchange the answer is false, which says nothing of the chip-select level: that is the Transport's affair and is not
modelled (R123, decision D32). -/
def endsOnHeldRead (trace : List Event) : Bool :=
  match trace.getLast? with
  | some e => e.hold && e.rx.isSome
  | none => false

/-- How many writes of this value to this ADC20 register a list of events holds, answered or not (R155 e). -/
def writesOf (cfg : Cfg) (addr value : Byte) (es : List Event) : Nat :=
  es.countP fun e => decide (e.tx = [cfg.writeCmd, addr, value])

/-- What is known of an ADC20 register's byte after one more event, from what was known before it. An answered W20 frame
to its address makes the byte its value (R121, R125). A FAILED one makes it unknown: R53 says that the register "may or
may not hold the new value" and 93 U4 allows any value, while R125 speaks of every W20 frame;
that the premise `Echoes` assumes neither the old value nor the new one is the model's choice, and so is telling a W20
frame by its bytes alone: DESIGN CHOICE, notes/assumptions/17.md. -/
def knownAfter (cfg : Cfg) (addr : Byte) (known : Option Byte) (e : Event) : Option Byte :=
  match e.tx with
  | [b1, b2, b3] => if b1 = cfg.writeCmd ∧ b2 = addr then e.rx.map fun _ => b3 else known
  | _ => known

/-- The byte that an ADC20 register of a chip that stores what it is sent (R36, R125) is known to hold after these
events: the value of the last write to it, if that write was answered; none where there was no write, or the last one
failed (R53; notes/assumptions/17.md). -/
def lastWritten (cfg : Cfg) (addr : Byte) (es : List Event) : Option Byte :=
  es.foldl (knownAfter cfg addr) none

/-! ### Assumptions on the Transport -/

/-- "The mock Transport that echoes writes" (R125): an answered R20b that follows at once an answered R20a for an
address gives the byte that the register is known to hold, where it is known. After a FAILED write to the address it is
not, until the next answered one: of reads in between the premise asks nothing, so that a chip which stored the failed
write meets it and one which did not meets it too (DESIGN CHOICE, notes/assumptions/17.md). -/
def Echoes (cfg : Cfg) (tr : List Event) : Prop :=
  ∀ (pre post : List Event) (addr v : Byte) (e1 e2 : Event),
    tr = pre ++ e1 :: e2 :: post →
    e1.tx = [cfg.readCmd, addr, cfg.dummy] → e1.hold = true → e1.rx.isSome = true →
    e2.tx = [cfg.dummy] → e2.hold = false →
    lastWritten cfg addr pre = some v →
    ∀ rx, e2.rx = some rx → rx = [v]

/-- The ADC24 pipeline (R133): the frame received in the exchange after an answered control write is the conversion
result that control word selects, whatever conversion the chip makes at that moment. A control write is told by its
bytes alone: where READ_TX has the form of a control frame (READ_TX = 0x0000 has, for the control word 0x000), a read
transfer counts as loading that word; the preamble 0xFFFF has that form for neither CW_SHIFT and counts as loading none.
What either does on a chip is not in the source (R135, 91 N12): DESIGN CHOICE, notes/assumptions/16.md. -/
def FollowsControlWord (cfg : Cfg) (conv : Nat → BitVec 12 → Half) (tr : List Event) : Prop :=
  ∀ (n : Nat) (e1 e2 : Event) (cw : BitVec 12),
    tr[n]? = some e1 → tr[n + 1]? = some e2 →
    e1.tx = frameBytes (controlFrame cfg.cwShift cw) → e1.rx.isSome = true →
    ∀ rx, e2.rx = some rx → rx = frameBytes (conv (n + 1) cw)

end Sys2Proof.Machine
end

