-- ==== Sys2Proof/Certificates/Slice0/Obligations.lean ====
section
/-! DEFINITION. The statements for the provers. Each docstring names the rules of spec/ it formalises; a clause that is
the model's own choice says so and names its log entry. -/

open Sys2Proof Sys2Proof.Machine

/-! ### Encoding -/

/-- R81 to R104: decoding what `encode` writes gives the instruction back, for every well-formed row that has an
encoding of its own, on a block of its family, whatever the parameters that meet R10. No bit of an encoding is
dropped. -/
def Obligations.DecodeInvertsEncode : Prop :=
  ∀ (cfg : Cfg) (fam : Family) (i : Instr),
    cfg.ok = true → i.wf = true → i.onFamily fam = true → i.kind ≠ .pseudo →
      decodeCode cfg fam (encode cfg i) = .ok i

/-- The other direction: what decodes to an instruction is that instruction's code, so no two codes of a block decode
to one instruction, and the decoder answers only well-formed rows of the block's family, never an alias. -/
def Obligations.EncodeInvertsDecode : Prop :=
  ∀ (cfg : Cfg) (fam : Family) (c : Code) (i : Instr),
    decodeCode cfg fam c = .ok i →
      encode cfg i = c ∧ i.wf = true ∧ i.onFamily fam = true ∧ i.kind ≠ .pseudo

/-- R84: a word decodes to a command row iff it matches the row under its mask and the row's family condition
holds. -/
def Obligations.WordSelectsItsOpcodeRow : Prop :=
  ∀ (fam : Family) (w : Word),
    (∀ i, decodeWord fam w = .ok i → i.kind = .command →
        ∃ n r, rowIndex i = some n ∧ opcodeMap[n]? = some r ∧ r.selects fam w = true) ∧
      ∀ n r, opcodeMap[n]? = some r → r.selects fam w = true →
        ∃ i, decodeWord fam w = .ok i ∧ i.kind = .command ∧ rowIndex i = some n

/-- R85: a word is Illegal (decodes to no row of R84) exactly when (a) its opcode is 0x0 or 0xA to 0xF, (b) RSV is not
0, (c) a bit its format requires to be zero is 1, (d) its opcode has no row for the family, or (e) it is INIT with
chid = 1 on ADC24. -/
def Obligations.IllegalWordsAreThoseOfTheFiveCases : Prop :=
  ∀ (fam : Family) (w : Word),
    ((∃ e, decodeWord fam w = .error e) ∨ ∃ i, decodeWord fam w = .ok i ∧ i.kind = .reserved) ↔
      ((w >>> 28).toNat = 0 ∨ 0xA ≤ (w >>> 28).toNat) ∨
      w &&& 0x0F000000#32 ≠ 0#32 ∨
      w &&& mustBeZeroBits (w >>> 28).toNat ≠ 0#32 ∨
      (fam = .adc24 ∧ ((w >>> 28).toNat = 2 ∨ (w >>> 28).toNat = 5 ∨ (w >>> 28).toNat = 6) ∨
        fam = .adc20 ∧ (w >>> 28).toNat = 7) ∨
      (fam = .adc24 ∧ (w >>> 28).toNat = 1 ∧ w &&& 1#32 = 1#32)

/-- R92: READRAW has RREG's word, MODECFG has SETAVG's or WCTL's, one-operand SSEQ has the word of SSEQ stop, stop +
1. -/
def Obligations.AliasesHaveTheirCoreWords : Prop :=
  (∀ cfg addr, encode cfg (.readraw addr) = encode cfg (.rreg addr)) ∧
  (∀ cfg ratio, encode cfg (.modecfgRatio ratio) = encode cfg (.setavg ratio)) ∧
  (∀ cfg word12, encode cfg (.modecfgWord12 word12) = encode cfg (.wctl word12)) ∧
  ∀ cfg (stop count : Byte), count.toNat = stop.toNat + 1 →
    encode cfg (.sseqStop stop) = encode cfg (.sseq20 stop count) ∧
      encode cfg (.sseqStop stop) = encode cfg (.sseq24 stop count)

/-- R91's table of words, and its rule that an operand that does not fit its field is refused, for the nine mnemonics
and every integer operand. (The spelling of a line of text is in `assembleLine`.) -/
def Obligations.AssemblerGivesTheTableWords : Prop :=
  ∀ (fam : Family) (x y : Int),
    assemble fam .INIT [] = some 0x10000000 ∧
    assemble fam .INIT [x] = (if 0 ≤ x ∧ x ≤ 1 then some (0x10000000#32 ||| BitVec.ofInt 32 x) else none) ∧
    assemble fam .SETAVG [x] =
      (if 0 ≤ x ∧ x ≤ 255 then some (0x20000000#32 ||| BitVec.ofInt 32 x <<< 16) else none) ∧
    assemble fam .SMAN [x] = (if 0 ≤ x ∧ x ≤ 255 then some (0x30000000#32 ||| BitVec.ofInt 32 x <<< 16) else none) ∧
    assemble fam .SSEQ [x, y] =
      (if (0 ≤ x ∧ x ≤ 255) ∧ 0 ≤ y ∧ y ≤ 255 then
        some (0x40000000#32 ||| BitVec.ofInt 32 x <<< 16 ||| BitVec.ofInt 32 y) else none) ∧
    assemble fam .SSEQ [x] =
      (if 0 ≤ x ∧ x ≤ 254 then some (0x40000000#32 ||| BitVec.ofInt 32 x <<< 16 ||| BitVec.ofInt 32 (x + 1)) else none) ∧
    assemble fam .WREG [x, y] =
      (if (0 ≤ x ∧ x ≤ 255) ∧ 0 ≤ y ∧ y ≤ 255 then
        some (0x50000000#32 ||| BitVec.ofInt 32 x <<< 16 ||| BitVec.ofInt 32 y) else none) ∧
    assemble fam .RREG [x] = (if 0 ≤ x ∧ x ≤ 255 then some (0x60000000#32 ||| BitVec.ofInt 32 x <<< 16) else none) ∧
    assemble fam .WCTL [x] = (if 0 ≤ x ∧ x ≤ 0xFFF then some (0x70000000#32 ||| BitVec.ofInt 32 x) else none) ∧
    assemble fam .TOMV [x, y] =
      (if (0 ≤ x ∧ x ≤ 1) ∧ -32768 ≤ y ∧ y ≤ 65535 then
        some (0x80000000#32 ||| BitVec.ofInt 32 x <<< 16 ||| (BitVec.ofInt 16 y).setWidth 32) else none) ∧
    assemble fam .CHKID [x, y] =
      (if (0 ≤ x ∧ x ≤ 255) ∧ 0 ≤ y ∧ y ≤ 15 then
        some (0x90000000#32 ||| BitVec.ofInt 32 x <<< 16 ||| BitVec.ofInt 32 y) else none)

/-- Words of 95_test_vectors.md section 3.1 and frames of section 3.2 decode to the instructions they stand for. The
two frames (W20, C24) are read with the suggested WRITE_CMD = 0x08 and CW_SHIFT = 4: PRESUMED values of R10's default
column, log 4; a frame given by itself is log 8's choice. -/
def Obligations.WrittenOutWordsDecode : Prop :=
  decodeWord .adc20 0x10000001 = .ok (.init20 true) ∧ decodeWord .adc24 0x10000000 = .ok .init24 ∧
  decodeWord .adc20 0x20070000 = .ok (.setavg 7) ∧ decodeWord .adc20 0x300F0000 = .ok (.sman20 15) ∧
  decodeWord .adc24 0x400F0010 = .ok (.sseq24 15 16) ∧ decodeWord .adc20 0x500300FF = .ok (.wreg 0x03 0xFF) ∧
  decodeWord .adc20 0x60FF0000 = .ok (.rreg 0xFF) ∧ decodeWord .adc24 0x70000FFF = .ok (.wctl 0xFFF) ∧
  decodeWord .adc20 0x8001FFFF = .ok (.tomv .bits16 0xFFFF) ∧ decodeWord .adc24 0x90FF000F = .ok (.chkid 0xFF 15) ∧
  decodeWord .adc20 0xA0000000 = .ok (.illegalOpcA 0) ∧
  decodeCode Cfg.suggested .adc20 (.wire .w20 0x080302) = .ok (.w20 0x03 0x02) ∧
  decodeCode Cfg.suggested .adc24 (.wire .c24 0x009B00) = .ok (.c24 0x9B0)

/-! ### The step -/

/-- R80, R27 (a big-step model): a command word at the port that decodes to a well-formed instruction runs as that
instruction, on the state with the request taken from the port; the step adds nothing else. That the host's requests
are a list in the state is the model's choice (log 2), and so is that a wire frame can stand there and runs in the
same way (log 8). -/
def Obligations.StepRunsTheDecodedInstruction : Prop :=
  ∀ (s : State) (c : Code) (rest : List Request) (i : Instr),
    s.port = .code c :: rest → decodeCode s.cfg s.family c = .ok i →
      i.wf = true ∧ step s = exec i { s with port := rest }

/-- R213 (with R85 and R211; the status is the spec's own decision D3): a command word that is Illegal completes at
once with IllegalCommand, RESULT 0, NSAMP 0, no exchange and no record, and changes nothing else (OPW and the dead
sequencer fields apart). -/
def Obligations.IllegalWordCompletesIllegalCommand : Prop :=
  ∀ (s : State) (w : Word) (rest : List Request),
    s.busy = false → s.port = .code (.word w) :: rest →
    ((∃ e, decodeWord s.family w = .error e) ∨ ∃ i, decodeWord s.family w = .ok i ∧ i.kind = .reserved) →
      step s = .next (completed { s with port := rest } w .illegalCommand 0 [] [])

/-- R240, R39: reset while BUSY = 0 gives every field of S except FAMILY its reset value and issues no exchange; with
nothing more at the port the block then waits for a command. (All values but ST = Idle are the spec's own decision
D24.) -/
def Obligations.ResetGivesTheResetValues : Prop :=
  ∀ (s : State) (rest : List Request), s.busy = false → s.port = .reset :: rest →
    ∃ t, step s = .next t ∧
      t.st = .idle ∧ t.inited = false ∧ t.osr = 0#3 ∧ t.chidEn = false ∧ t.busy = false ∧
      t.status = .ok ∧ t.result = 0#32 ∧ t.nsamp = 0#8 ∧
      t.raw = 0#16 ∧ t.res = .bits12 ∧ t.chidv = false ∧ t.chid = 0#4 ∧ t.mv = 0#32 ∧
      t.opw = 0#32 ∧ t.stepNo = 0#8 ∧ t.idx = 0#8 ∧ t.pend = .ok ∧ t.out = [] ∧
      t.family = s.family ∧ t.trace = s.trace ∧ t.answers = s.answers ∧ t.cfg = s.cfg ∧ t.port = rest ∧
      (rest = [] → step t = .next t)

/-- 93 U13, R241: while BUSY = 1 neither a command nor reset has a step. The model's stop (log 9). -/
def Obligations.BusyBlockTakesNothing : Prop :=
  ∀ (s : State) (rest : List Request), s.busy = true →
    (s.port = .reset :: rest → step s = .refused .resetWhileBusy) ∧
    ∀ w, s.port = .code (.word w) :: rest → step s = .refused .commandWhileBusy

/-! ### Invariants and rules about every instruction -/

/-- R41, which the spec marks as derived, as an inductive invariant: every step keeps it. Its last clause, on INITED,
is in the state's form: INITED = 1 only where the last command to complete did not end with IoError or ProtocolDesync;
that only an INIT that completed OK sets INITED again is AcquisitionStateFollowsTheTable. -/
def Obligations.StepKeepsTheInvariant : Prop :=
  ∀ s t : State, inv s → step s = .next t → inv t

/-- R39, R41: the state after reset meets the invariant, on either family and with any parameters. -/
def Obligations.ResetMeetsTheInvariant : Prop :=
  inv State.reset ∧ ∀ (fam : Family) (cfg : Cfg), inv { State.reset with family := fam, cfg := cfg }

/-- R8: FAMILY is not changed by any command or by reset. Nor are the other parameters, which the model keeps in the
state as a strap (its choice, log 4: R38 has them as an argument; R19 calls a strap fixed for the life of the
instance). -/
def Obligations.StrapsNeverChange : Prop :=
  ∀ s t : State, step s = .next t → t.family = s.family ∧ t.cfg = s.cfg

/-- R218: whatever command or reset stands at the port of an idle block, whatever the oracle answers, the step takes
it and ends with BUSY = 0: no error stops the block. -/
def Obligations.NoErrorStopsTheBlock : Prop :=
  ∀ (s : State) (r : Request) (rest : List Request),
    s.busy = false → s.port = r :: rest → (∀ sh v, r ≠ .code (.wire sh v)) →
      ∃ t, step s = .next t ∧ t.busy = false ∧ t.port = rest

/-- R22, R23, R89: every command completes, exactly once, with BUSY = 0, OPW holding its word and one response, whose
RESULT is 0 unless the status is OK; the trace and OUT only grow. -/
def Obligations.EveryCommandRespondsOnce : Prop :=
  ∀ (i : Instr) (s : State), i.kind ≠ .wireFrame → s.busy = false →
    ∃ t, exec i s = .next t ∧ t.busy = false ∧ t.opw = encodeWord i ∧
      t.responses = s.responses ++ [{ status := t.status, result := t.result, nsamp := t.nsamp }] ∧
      (t.status ≠ .ok → t.result = 0#32) ∧ s.trace <+: t.trace ∧ s.out <+: t.out ∧
      t.port = s.port ∧ t.family = s.family ∧ t.cfg = s.cfg

/-- R212, R215: a command that completes with IoError or ProtocolDesync leaves ST = Idle, INITED = 0, OSR and CHID_EN
as they were, RESULT 0, NSAMP the records delivered before the error, which stay in OUT; the last-sample registers
hold the last of them, and are unchanged where there is none. -/
def Obligations.FatalErrorsEndTheSession : Prop :=
  ∀ (i : Instr) (s t : State), i.kind ≠ .wireFrame → exec i s = .next t →
    (t.status = .ioError ∨ t.status = .protocolDesync) →
      t.st = .idle ∧ t.inited = false ∧ t.osr = s.osr ∧ t.chidEn = s.chidEn ∧ t.result = 0#32 ∧
      t.out = s.out ++ newRecords s t ∧ t.nsamp.toNat = (newRecords s t).length ∧
      (t.status = .protocolDesync → s.family = .adc20 ∧ s.chidEn = true) ∧
      lastSample t = ((newRecords s t).getLast?.map fun r => { r with seqIdx := 0 }).getD (lastSample s)

/-- R211: InvalidArgument is raised exactly for an operand out of its range, on a block that has the row; it then
issues no exchange and changes nothing but STATUS, RESULT and NSAMP (OPW and the dead sequencer fields apart). -/
def Obligations.InvalidArgumentExactlyOutOfRange : Prop :=
  ∀ (i : Instr) (s : State), i.kind ≠ .wireFrame → i.onFamily s.family = true → s.busy = false →
    (outOfRange s.family i → exec i s = .next (completed s (encodeWord i) .invalidArgument 0 [] [])) ∧
    ∀ t, exec i s = .next t → t.status = .invalidArgument → outOfRange s.family i

/-- R31, R32: OSR changes only by a SETAVG that completes OK, to its ratio; CHID_EN only by an ADC20 INIT that
completes OK, to its chid. -/
def Obligations.CachesHaveOneWriter : Prop :=
  ∀ (i : Instr) (s t : State), exec i s = .next t →
    (t.osr ≠ s.osr →
      t.status = .ok ∧ ∃ r : Byte, (i = .setavg r ∨ i = .modecfgRatio r) ∧ t.osr.toNat = r.toNat) ∧
    (t.chidEn ≠ s.chidEn → t.status = .ok ∧ i = .init20 t.chidEn)

/-- R40 between commands: ST and INITED after a command, by its status. -/
def Obligations.AcquisitionStateFollowsTheTable : Prop :=
  ∀ (i : Instr) (s t : State), i.kind ≠ .wireFrame → exec i s = .next t →
    match t.status with
    | .ok => t.st = stAfterOk s.st i ∧ t.inited = initedAfterOk s.inited i
    | .ioError | .protocolDesync => t.st = .idle ∧ t.inited = false
    | .invalidArgument | .illegalCommand => t.st = s.st ∧ t.inited = s.inited

/-- R51: whatever runs, the trace only grows, every exchange issued has one of the listed shapes of the block's
family, and every answer taken has the length of what was sent. -/
def Obligations.OnlyListedShapesAreIssued : Prop :=
  ∀ (i : Instr) (s t : State), exec i s = .next t →
    t.trace = s.trace ++ newEvents s t ∧
      ∀ e ∈ newEvents s t, shapeOk s.cfg s.family e = true ∧ lengthOk e = true

/-- R52: within a command, an answered exchange that holds chip-select is followed at once by the one-byte exchange
that releases it, and no one-byte exchange is issued otherwise; so no command's exchanges end on an answered held
exchange. Of the chip-select level after a FAILED held exchange this says nothing: R123 (the spec's own decision D32)
leaves it to the Transport. -/
def Obligations.HeldReadsAreChained : Prop :=
  ∀ (i : Instr) (s t : State), i.kind ≠ .wireFrame → exec i s = .next t →
    chainedReadsOk s.cfg (newEvents s t) = true ∧ endsOnHeldRead (newEvents s t) = false

/-- R263: the number of exchanges of a command that completes OK. -/
def Obligations.ExchangeCountsPerCommand : Prop :=
  ∀ (i : Instr) (s t : State), i.kind = .command → exec i s = .next t → t.status = .ok →
    (newEvents s t).length = exchangeCount i

/-- R24 (the spec's own decision D23): NSAMP is the number of records the command appended to OUT, at most 1 for SMAN
and count for SSEQ, 0 for every other command. -/
def Obligations.NsampCountsTheRecords : Prop :=
  ∀ (i : Instr) (s t : State), i.kind ≠ .wireFrame → exec i s = .next t →
    t.out = s.out ++ newRecords s t ∧ t.nsamp.toNat = (newRecords s t).length ∧
      (newRecords s t).length ≤ maxRecords i

/-- R25, R33, R150, R153, R175, R178: record k of a command is the sample of its k-th sample-producing read, decoded
from the bytes that read answered, with SEQ_IDX = k, so that the records stand in frame order; each is a sample of the
family; the last-sample registers hold the last one, and are unchanged where there is none. -/
def Obligations.RecordsStandInFrameOrder : Prop :=
  ∀ (i : Instr) (s t : State), i.kind ≠ .wireFrame → exec i s = .next t →
    (∀ k r, (newRecords s t)[k]? = some r →
      r.seqIdx = BitVec.ofNat 8 k ∧ recordOk s.cfg s.family r ∧ (r.chidv = true → s.chidEn = true) ∧
        ∃ e, (newEvents s t)[firstSampleRead s.family i + k]? = some e ∧ sampledFrom s e k r) ∧
    (newRecords s t = [] →
      t.raw = s.raw ∧ t.res = s.res ∧ t.chidv = s.chidv ∧ t.chid = s.chid ∧ t.mv = s.mv) ∧
    ∀ r, (newRecords s t).getLast? = some r →
      t.raw = r.raw ∧ t.res = r.res ∧ t.chidv = r.chidv ∧ t.chid = r.chid ∧ t.mv = r.mv

/-! ### Results of the register protocols -/

/-- R121, R122 (and R212): WREG issues the one W20 exchange. Answered, it completes OK with RESULT 0; failed, IoError.
Nothing else changes. -/
def Obligations.WregIssuesOneWrite : Prop :=
  ∀ (s : State) (addr value : Byte) (rx : Option (List Byte)),
    s.busy = false → s.family = .adc20 → gets s [writeEvent s.cfg addr value rx] = true →
      exec (.wreg addr value) s = .next
        (match rx with
          | some _ => completed s (encodeWord (.wreg addr value)) .ok 0 [writeEvent s.cfg addr value rx] []
          | none =>
            lostSession (completed s (encodeWord (.wreg addr value)) .ioError 0 [writeEvent s.cfg addr value rx] []))

/-- R123, R124 (and R212, R92): RREG, by either name, sends the read frame with chip-select held and then one DUMMY
byte (the spec's own decision D8); RESULT is the byte of the second exchange, zero-extended. If the first exchange
fails the second is not issued (the spec's own decision D32). -/
def Obligations.RregReadsTheSecondByte : Prop :=
  ∀ (s : State) (i : Instr) (addr : Byte), (i = .rreg addr ∨ i = .readraw addr) →
    s.busy = false → s.family = .adc20 →
    (∀ (first : List Byte) (v : Byte),
      let evs := [readFirstEvent s.cfg addr (some first), readSecondEvent s.cfg (some [v])]
      gets s evs = true → exec i s = .next (completed s (encodeWord i) .ok (v.setWidth 32) evs [])) ∧
    ∀ (first : List Byte) (evs : List Event),
      evs = [readFirstEvent s.cfg addr (some first), readSecondEvent s.cfg none] ∨
        evs = [readFirstEvent s.cfg addr none] →
      gets s evs = true → exec i s = .next (lostSession (completed s (encodeWord i) .ioError 0 evs []))

/-- R125, which the spec marks as derived: on a Transport that echoes writes, WREG a, v and then RREG a, both OK,
leave RESULT = v. (After a failed write the echoing register's byte counts as unknown until the next answered one: R53
leaves it open, the model's choice, log 17.) -/
def Obligations.WrittenRegisterReadsBack : Prop :=
  ∀ (s t u : State) (addr v : Byte),
    exec (.wreg addr v) s = .next t → t.status = .ok →
    exec (.rreg addr) t = .next u → u.status = .ok →
    Echoes s.cfg u.trace → u.result = v.setWidth 32

/-- R131, R132 (and R212, R92): WCTL, by either name, sends cw12 << CW_SHIFT as 16 bits, most significant byte first;
RESULT is the 16-bit frame received, undecoded (the spec's own decision D23). -/
def Obligations.WctlSendsTheShiftedWord : Prop :=
  ∀ (s : State) (i : Instr) (word12 : BitVec 12), (i = .wctl word12 ∨ i = .modecfgWord12 word12) →
    s.busy = false → s.family = .adc24 →
    ∀ b1 b2 : Byte,
      b1.toNat * 256 + b2.toNat = word12.toNat * (match s.cfg.cwShift with | .left4 => 16 | .none0 => 1) →
      (∀ r1 r2 : Byte,
        let evs : List Event := [{ tx := [b1, b2], hold := false, rx := some [r1, r2] }]
        gets s evs = true →
          ∃ t, exec i s = .next t ∧ t = completed s (encodeWord i) .ok t.result evs [] ∧
            t.result.toNat = r1.toNat * 256 + r2.toNat) ∧
      (let evs : List Event := [{ tx := [b1, b2], hold := false, rx := none }]
       gets s evs = true → exec i s = .next (lostSession (completed s (encodeWord i) .ioError 0 evs [])))

/-! ### Results of INIT and SETAVG -/

/-- R145 (and R212): ADC20 INIT issues the three writes in this order; CHID_EN, ST and INITED change only after all
three; a failure stops the rest. -/
def Obligations.Init20WritesThreeRegisters : Prop :=
  ∀ (s : State) (chid : Bool), s.busy = false → s.family = .adc20 →
    let w1 := writeEvent s.cfg s.cfg.regDataCfg (if chid then s.cfg.valDataCfgChid else s.cfg.valDataCfgNochid)
    let w2 := writeEvent s.cfg s.cfg.regPinCfg s.cfg.valPinAllAnalog
    let w3 := writeEvent s.cfg s.cfg.regOpmode s.cfg.valOpmodeDefault
    let w := encodeWord (.init20 chid)
    (∀ a b c : List Byte,
      gets s [w1 (some a), w2 (some b), w3 (some c)] = true →
        exec (.init20 chid) s = .next
          { completed s w .ok 0 [w1 (some a), w2 (some b), w3 (some c)] [] with
            chidEn := chid, st := .configured, inited := true }) ∧
    (∀ a b : List Byte,
      (∀ evs, evs = [w1 none] ∨ evs = [w1 (some a), w2 none] ∨ evs = [w1 (some a), w2 (some b), w3 none] →
        gets s evs = true →
          exec (.init20 chid) s = .next (lostSession (completed s w .ioError 0 evs []))))

/-- R171 (and R212): ADC24 INIT sends exactly two all-ones frames and no control word; the second is not sent if the
first failed. -/
def Obligations.Init24SendsTwoPreambleFrames : Prop :=
  ∀ s : State, s.busy = false → s.family = .adc24 →
    (∀ a b : List Byte,
      gets s [preambleEvent (some a), preambleEvent (some b)] = true →
        exec .init24 s = .next
          { completed s (encodeWord .init24) .ok 0 [preambleEvent (some a), preambleEvent (some b)] [] with
            st := .configured, inited := true }) ∧
    ∀ (a : List Byte) (evs : List Event),
      evs = [preambleEvent none] ∨ evs = [preambleEvent (some a), preambleEvent none] →
      gets s evs = true →
        exec .init24 s = .next (lostSession (completed s (encodeWord .init24) .ioError 0 evs []))

/-- R146 (and R211, R212, R92): SETAVG, by either name, with a ratio of 0 to 7 writes it to the oversampling register;
OSR follows only after the write succeeded; ST and INITED stay. A ratio above 7 is InvalidArgument with no
exchange. -/
def Obligations.SetavgWritesTheRatio : Prop :=
  ∀ (s : State) (i : Instr) (ratio : Byte), (i = .setavg ratio ∨ i = .modecfgRatio ratio) →
    s.busy = false → s.family = .adc20 →
    (ratio.toNat ≤ 7 → ∀ rx : List Byte,
      gets s [writeEvent s.cfg s.cfg.regOsr ratio (some rx)] = true →
        exec i s = .next
          { completed s (encodeWord i) .ok 0 [writeEvent s.cfg s.cfg.regOsr ratio (some rx)] [] with
            osr := ratio.setWidth 3 }) ∧
    (ratio.toNat ≤ 7 → gets s [writeEvent s.cfg s.cfg.regOsr ratio none] = true →
        exec i s = .next
          (lostSession (completed s (encodeWord i) .ioError 0 [writeEvent s.cfg s.cfg.regOsr ratio none] []))) ∧
    (7 < ratio.toNat → exec i s = .next (completed s (encodeWord i) .invalidArgument 0 [] []))

/-! ### Results of SMAN -/

/-- R150, R143, R201 (and R211, R212, R215): ADC20 SMAN writes the channel, reads a dummy cycle whose bytes do
nothing, reads and decodes the real cycle; a nibble that is not the channel is ProtocolDesync with no record, else one
record is delivered and RESULT is its millivolts. -/
def Obligations.Sman20SamplesOneChannel : Prop :=
  ∀ (s : State) (ch : Byte), s.busy = false → s.family = .adc20 →
    let w := encodeWord (.sman20 ch)
    let e1 := writeEvent s.cfg s.cfg.regChannelSel ch
    let e2 := cycleEvent s.cfg
    (7 < ch.toNat → exec (.sman20 ch) s = .next (completed s w .invalidArgument 0 [] [])) ∧
    (ch.toNat ≤ 7 → ∀ (a d : List Byte) (r1 r2 r3 : Byte),
      let evs := [e1 (some a), e2 (some d), e2 (some [r1, r2, r3])]
      let fr := decodeFrame20 s.osr s.chidEn r1 r2 r3
      let r := sampleOf s.cfg .adc20 fr 0
      gets s evs = true →
        exec (.sman20 ch) s = .next
          (if fr.chidv = true ∧ fr.chid.toNat ≠ ch.toNat then
            { lostSession (completed s w .protocolDesync 0 evs []) with
              lat := { s.lat with rx := [r1, r2, r3], fr := fr } }
          else
            { completed s w .ok r.mv evs [r] with
              st := .manual, lat := { s.lat with rx := [r1, r2, r3], fr := fr } })) ∧
    (ch.toNat ≤ 7 → ∀ (a d : List Byte) (evs : List Event),
      evs = [e1 none] ∨ evs = [e1 (some a), e2 none] ∨ evs = [e1 (some a), e2 (some d), e2 none] →
      gets s evs = true → exec (.sman20 ch) s = .next (lostSession (completed s w .ioError 0 evs [])))

/-- R175, R173 (and R211, R212): ADC24 SMAN sends the manual control word of the channel, discards the frame received
meanwhile, and delivers the sign-extended code of the next transfer. -/
def Obligations.Sman24SamplesOneChannel : Prop :=
  ∀ (s : State) (ch : Byte), s.busy = false → s.family = .adc24 →
    let w := encodeWord (.sman24 ch)
    let cw := s.cfg.baseManual ||| BitVec.ofNat 12 (ch.toNat * 64)
    let e1 := controlEvent s.cfg cw
    let e2 := transferEvent s.cfg
    (15 < ch.toNat → exec (.sman24 ch) s = .next (completed s w .invalidArgument 0 [] [])) ∧
    (ch.toNat ≤ 15 → ∀ (d : List Byte) (r1 r2 : Byte),
      let evs := [e1 (some d), e2 (some [r1, r2])]
      let fr := decodeFrame24 (pairFrame r1 r2)
      let r := sampleOf s.cfg .adc24 fr 0
      gets s evs = true →
        exec (.sman24 ch) s = .next
          { completed s w .ok r.mv evs [r] with
            st := .manual, lat := { s.lat with rx := [r1, r2], fr := fr, cw := cw } }) ∧
    (ch.toNat ≤ 15 → ∀ (d : List Byte) (evs : List Event),
      evs = [e1 none] ∨ evs = [e1 (some d), e2 none] → gets s evs = true →
        exec (.sman24 ch) s = .next
          { lostSession (completed s w .ioError 0 evs []) with
            lat := { s.lat with rx := lastRx s.lat.rx evs, cw := cw } })

/-- 93 U8, R150: the bytes of the dummy read cycle change nothing but the trace and the latch of received bytes. -/
def Obligations.DummyReadBytesAreIgnored : Prop :=
  ∀ (s t t' : State) (ch : Byte) (a c : Answer) (rest : List Answer) (d d' : List Byte),
    d.length = 3 → d'.length = 3 →
    exec (.sman20 ch) { s with answers := a :: .ok d :: c :: rest } = .next t →
    exec (.sman20 ch) { s with answers := a :: .ok d' :: c :: rest } = .next t' →
      { t with trace := [], answers := [], lat := { t.lat with rx := [] } } =
        { t' with trace := [], answers := [], lat := { t'.lat with rx := [] } }

/-- R175, R134: the frame received while SMAN's control word is written changes nothing but the trace and the latch of
received bytes. -/
def Obligations.StaleFrameIsDiscarded : Prop :=
  ∀ (s t t' : State) (ch : Byte) (c : Answer) (rest : List Answer) (d d' : List Byte),
    d.length = 2 → d'.length = 2 →
    exec (.sman24 ch) { s with answers := .ok d :: c :: rest } = .next t →
    exec (.sman24 ch) { s with answers := .ok d' :: c :: rest } = .next t' →
      { t with trace := [], answers := [], lat := { t.lat with rx := [] } } =
        { t' with trace := [], answers := [], lat := { t'.lat with rx := [] } }

/-- R133, R134: on a chip that obeys the pipeline, what ADC24 SMAN delivers is the conversion its own control word
selects. (A control write is told by its bytes alone, also where a read transfer has such bytes: R135 leaves that
open, the model's choice, log 16.) -/
def Obligations.PipelinedSampleIsOfItsChannel : Prop :=
  ∀ (s t : State) (ch : Byte) (conv : Nat → BitVec 12 → Half),
    exec (.sman24 ch) s = .next t → t.status = .ok → FollowsControlWord s.cfg conv t.trace →
      t.raw = signExt24
        ((conv (s.trace.length + 1) (s.cfg.baseManual ||| BitVec.ofNat 12 (ch.toNat * 64))).extractLsb' 0 12)

/-! ### Results of SSEQ -/

/-- R153 (and R92): an ADC20 sequence with no failure and no mismatch issues the mask write, the start write, count
read cycles and the stop write, delivers one record per frame in frame order, and ends in Idle with OK and NSAMP =
count; by either form of SSEQ. -/
def Obligations.Sseq20DeliversEveryFrame : Prop :=
  ∀ (s : State) (i : Instr) (stop count : Byte) (frames : List (Byte × Byte × Byte)) (a b z : List Byte),
    (i = .sseq20 stop count ∨ i = .sseqStop stop) →
    s.busy = false → s.family = .adc20 → 1 ≤ stop.toNat → stop.toNat ≤ 7 → count.toNat = stop.toNat + 1 →
    frames.length = stop.toNat + 1 → idsMatch s frames = true →
    let evs :=
      writeEvent s.cfg s.cfg.regAutoSeqChSel (seqMask stop.toNat) (some a) ::
      writeEvent s.cfg s.cfg.regSeqMode s.cfg.valSeqStart (some b) ::
      (frames.map (fun f => cycleEvent s.cfg (some [f.1, f.2.1, f.2.2])) ++
        [writeEvent s.cfg s.cfg.regSeqMode s.cfg.valSeqStop (some z)])
    gets s evs = true →
      exec i s = .next
        { completed s (encodeWord i) .ok 0 evs (records20 s frames) with
          st := .idle
          lat := { rx := z, fr := lastFrame20 s frames, cw := s.lat.cw, mask := seqMask stop.toNat } }

/-- R154, the failures before any frame: (a) the mask write fails: one exchange, no start, no stop; (b) the start
write fails: the stop write is still issued, whatever it answers. IoError, no record. -/
def Obligations.Sseq20FailsBeforeItsFrames : Prop :=
  ∀ (s : State) (stop count : Byte) (a : List Byte) (z : Option (List Byte)),
    s.busy = false → s.family = .adc20 → 1 ≤ stop.toNat → stop.toNat ≤ 7 → count.toNat = stop.toNat + 1 →
    let w := encodeWord (.sseq20 stop count)
    let mask := seqMask stop.toNat
    let e1 := writeEvent s.cfg s.cfg.regAutoSeqChSel mask
    let e2 := writeEvent s.cfg s.cfg.regSeqMode s.cfg.valSeqStart
    let e3 := writeEvent s.cfg s.cfg.regSeqMode s.cfg.valSeqStop
    (gets s [e1 none] = true →
      exec (.sseq20 stop count) s = .next
        { lostSession (completed s w .ioError 0 [e1 none] []) with lat := { s.lat with mask := mask } }) ∧
    (gets s [e1 (some a), e2 none, e3 z] = true →
      exec (.sseq20 stop count) s = .next
        { lostSession (completed s w .ioError 0 [e1 (some a), e2 none, e3 z] []) with
          pend := .ioError
          lat := { s.lat with rx := z.getD a, mask := mask } })

/-- R154 (c) and ProtocolDesync: after `frames` good frames, fewer than count, read cycle k fails, or answers with a
nibble that is not k. No further read cycle is issued, the stop write is, whatever it answers; the k records stay;
NSAMP = k; k + 4 exchanges; the first error is the one reported. -/
def Obligations.Sseq20AbortsAtABadFrame : Prop :=
  ∀ (s : State) (stop count : Byte) (frames : List (Byte × Byte × Byte)) (a b : List Byte)
    (bad : Option (Byte × Byte × Byte)) (z : Option (List Byte)),
    s.busy = false → s.family = .adc20 → 1 ≤ stop.toNat → stop.toNat ≤ 7 → count.toNat = stop.toNat + 1 →
    frames.length ≤ stop.toNat → idsMatch s frames = true →
    (∀ f, bad = some f → s.chidEn = true ∧
      (decodeFrame20 s.osr s.chidEn f.1 f.2.1 f.2.2).chid.toNat ≠ frames.length) →
    let e : Status := if bad.isSome then .protocolDesync else .ioError
    let evs :=
      writeEvent s.cfg s.cfg.regAutoSeqChSel (seqMask stop.toNat) (some a) ::
      writeEvent s.cfg s.cfg.regSeqMode s.cfg.valSeqStart (some b) ::
      (frames.map (fun f => cycleEvent s.cfg (some [f.1, f.2.1, f.2.2])) ++
        [cycleEvent s.cfg (bad.map fun f => [f.1, f.2.1, f.2.2]),
         writeEvent s.cfg s.cfg.regSeqMode s.cfg.valSeqStop z])
    gets s evs = true →
      exec (.sseq20 stop count) s = .next
        { lostSession (completed s (encodeWord (.sseq20 stop count)) e 0 evs (records20 s frames)) with
          pend := e
          lat := { rx := lastRx s.lat.rx evs, fr := lastFrame20 s (frames ++ bad.toList), cw := s.lat.cw,
                   mask := seqMask stop.toNat } }

/-- R154 (d): only the stop write fails: every record has been delivered, NSAMP = count, status IoError. -/
def Obligations.Sseq20FailsAtTheStopWrite : Prop :=
  ∀ (s : State) (stop count : Byte) (frames : List (Byte × Byte × Byte)) (a b : List Byte),
    s.busy = false → s.family = .adc20 → 1 ≤ stop.toNat → stop.toNat ≤ 7 → count.toNat = stop.toNat + 1 →
    frames.length = stop.toNat + 1 → idsMatch s frames = true →
    let evs :=
      writeEvent s.cfg s.cfg.regAutoSeqChSel (seqMask stop.toNat) (some a) ::
      writeEvent s.cfg s.cfg.regSeqMode s.cfg.valSeqStart (some b) ::
      (frames.map (fun f => cycleEvent s.cfg (some [f.1, f.2.1, f.2.2])) ++
        [writeEvent s.cfg s.cfg.regSeqMode s.cfg.valSeqStop none])
    gets s evs = true →
      exec (.sseq20 stop count) s = .next
        { lostSession (completed s (encodeWord (.sseq20 stop count)) .ioError 0 evs (records20 s frames)) with
          pend := .ioError
          lat := { rx := lastRx s.lat.rx evs, fr := lastFrame20 s frames, cw := s.lat.cw,
                   mask := seqMask stop.toNat } }

/-- R155 (e), D14: in the trace of one ADC20 SSEQ there are as many start writes as stop writes, 0 or 1 of each,
whatever the oracle answers. (The two values, and DUMMY and WRITE_CMD, must differ for the writes to be told apart on
the wire.) -/
def Obligations.EveryStartHasItsStop : Prop :=
  ∀ (s t : State) (stop count : Byte), s.cfg.ok = true → s.cfg.valSeqStart ≠ s.cfg.valSeqStop →
    s.cfg.dummy ≠ s.cfg.writeCmd → exec (.sseq20 stop count) s = .next t →
      writesOf s.cfg s.cfg.regSeqMode s.cfg.valSeqStart (newEvents s t) =
          writesOf s.cfg s.cfg.regSeqMode s.cfg.valSeqStop (newEvents s t) ∧
        writesOf s.cfg s.cfg.regSeqMode s.cfg.valSeqStart (newEvents s t) ≤ 1

/-- R178 (and R92): an ADC24 sequence with no failure sends its control word once, then count read transfers, delivers
one record per frame in order, and ends in Idle with OK and NSAMP = count, with no stop write; by either form of
SSEQ. -/
def Obligations.Sseq24DeliversEveryFrame : Prop :=
  ∀ (s : State) (i : Instr) (stop count : Byte) (frames : List (Byte × Byte)) (d : List Byte),
    (i = .sseq24 stop count ∨ i = .sseqStop stop) →
    s.busy = false → s.family = .adc24 → 1 ≤ stop.toNat → stop.toNat ≤ 15 → count.toNat = stop.toNat + 1 →
    frames.length = stop.toNat + 1 →
    let cw := s.cfg.baseSeq ||| BitVec.ofNat 12 (stop.toNat * 64)
    let evs := controlEvent s.cfg cw (some d) :: frames.map (fun f => transferEvent s.cfg (some [f.1, f.2]))
    gets s evs = true →
      exec i s = .next
        { completed s (encodeWord i) .ok 0 evs (records24 s frames) with
          st := .idle
          lat := { rx := lastRx s.lat.rx evs, fr := lastFrame24 s frames, cw := cw, mask := s.lat.mask } }

/-- R179: (a) the control write fails: one exchange, no sample; (b) read transfer k fails: the k records stay, no
further transfer is issued, k + 2 exchanges. IoError in both. -/
def Obligations.Sseq24AbortsAtAFailure : Prop :=
  ∀ (s : State) (stop count : Byte) (frames : List (Byte × Byte)) (d : List Byte),
    s.busy = false → s.family = .adc24 → 1 ≤ stop.toNat → stop.toNat ≤ 15 → count.toNat = stop.toNat + 1 →
    let cw := s.cfg.baseSeq ||| BitVec.ofNat 12 (stop.toNat * 64)
    let w := encodeWord (.sseq24 stop count)
    (gets s [controlEvent s.cfg cw none] = true →
      exec (.sseq24 stop count) s = .next
        { lostSession (completed s w .ioError 0 [controlEvent s.cfg cw none] []) with
          lat := { s.lat with cw := cw } }) ∧
    (frames.length ≤ stop.toNat →
      let evs :=
        controlEvent s.cfg cw (some d) ::
        (frames.map (fun f => transferEvent s.cfg (some [f.1, f.2])) ++ [transferEvent s.cfg none])
      gets s evs = true →
        exec (.sseq24 stop count) s = .next
          { lostSession (completed s w .ioError 0 evs (records24 s frames)) with
            lat := { rx := lastRx s.lat.rx evs, fr := lastFrame24 s frames, cw := cw, mask := s.lat.mask } })

/-! ### The pure commands, the reserved opcodes, the other family -/

/-- R192: TOMV gives the converter's value of its code for the family's range, in 32-bit two's complement, with OK;
nothing else changes. -/
def Obligations.TomvConvertsItsCode : Prop :=
  ∀ (s : State) (res : Resolution) (code16 : Half), s.busy = false →
    exec (.tomv res code16) s = .next
      (completed s (encodeWord (.tomv res code16)) .ok
        (BitVec.ofInt 32
          (toMv (match res with | .bits16 => (code16.toNat : Int) | .bits12 => code16.toInt) res
            (match s.family with | .adc20 => s.cfg.vrangeMv20 | .adc24 => s.cfg.vrangeMv24)))
        [] [])

/-- R203: CHKID gives 1 iff the nibble is the expected channel, with OK whatever it finds; nothing else changes. -/
def Obligations.ChkidCompares : Prop :=
  ∀ (s : State) (expected : Byte) (nib : BitVec 4), s.busy = false →
    exec (.chkid expected nib) s = .next
      (completed s (encodeWord (.chkid expected nib)) .ok (if nib.toNat = expected.toNat then 1 else 0) [] [])

/-- R85 (a), R86, R213: each reserved opcode, whatever its other bits, completes with IllegalCommand, no exchange, and
changes nothing else. -/
def Obligations.ReservedOpcodesAreIllegal : Prop :=
  ∀ (s : State) (i : Instr) (rest : BitVec 28), s.busy = false →
    (i = .illegalOpc0 rest ∨ i = .illegalOpcA rest ∨ i = .illegalOpcB rest ∨ i = .illegalOpcC rest ∨
      i = .illegalOpcD rest ∨ i = .illegalOpcE rest ∨ i = .illegalOpcF rest) →
      exec i s = .next (completed s (encodeWord i) .illegalCommand 0 [] [])

/-- R85 (d), R120, R130: a command row run on a block of the other family completes with IllegalCommand, no exchange,
and changes nothing else. (For INIT, SMAN and SSEQ, whose word has a row in both families, no word decodes so: the
model's reading, log 12.) -/
def Obligations.RowsOfTheOtherFamilyAreIllegal : Prop :=
  ∀ (s : State) (i : Instr), i.kind ≠ .wireFrame → i.onFamily s.family = false → s.busy = false →
    exec i s = .next (completed s (encodeWord i) .illegalCommand 0 [] [])

/-! ### The wire-frame rows (run by themselves: the model's reading, log 8) -/

/-- R95, R96, R97, R102, R103, R104: a transmit row, run by itself (the model's reading, log 8), issues exactly its
frame, with its hold bit; the bytes go to the latch; a failure raises IoError. -/
def Obligations.TransmitRowsIssueTheirFrame : Prop :=
  ∀ (s : State) (rx : Option (List Byte)),
    (s.family = .adc20 →
      (∀ addr value, gets s [writeEvent s.cfg addr value rx] = true →
        exec (.w20 addr value) s = .next (afterExchange s (writeEvent s.cfg addr value rx))) ∧
      (∀ addr, gets s [readFirstEvent s.cfg addr rx] = true →
        exec (.r20a addr) s = .next (afterExchange s (readFirstEvent s.cfg addr rx))) ∧
      (gets s [readSecondEvent s.cfg rx] = true →
        exec .r20b s = .next (afterExchange s (readSecondEvent s.cfg rx))) ∧
      (gets s [cycleEvent s.cfg rx] = true → exec .f20 s = .next (afterExchange s (cycleEvent s.cfg rx)))) ∧
    (s.family = .adc24 →
      (∀ cw, gets s [controlEvent s.cfg cw rx] = true →
        exec (.c24 cw) s = .next (afterExchange s (controlEvent s.cfg cw rx))) ∧
      (gets s [preambleEvent rx] = true → exec .p24 s = .next (afterExchange s (preambleEvent rx))) ∧
      (gets s [transferEvent s.cfg rx] = true → exec .f24 s = .next (afterExchange s (transferEvent s.cfg rx))))

/-- R98, R99, R104, R174: a receive row, run by itself (the model's reading, log 8), latches its bytes and the frame
they decode to: the 12-bit code and nibble when OSR = 0, the 16-bit code and nibble when OSR is not 0 (the nibble only
when CHID_EN = 1), the sign-extended code on ADC24. Nothing else changes. -/
def Obligations.ReceiveRowsDecodeTheirFrame : Prop :=
  ∀ s : State,
    (s.family = .adc20 → s.osr = 0#3 → ∀ code nib ignored,
      let v := layout12 code nib ignored
      exec (.f20Rx12 code nib ignored) s = .next
        { s with
          lat := { s.lat with
            rx := [byte1 v, byte2 v, byte3 v]
            fr := { raw := code.setWidth 16, res := .bits12, chidv := s.chidEn,
                    chid := if s.chidEn then nib else 0 } } }) ∧
    (s.family = .adc20 → s.osr ≠ 0#3 → ∀ code nib ignored,
      let v := layout16 code nib ignored
      exec (.f20Rx16 code nib ignored) s = .next
        { s with
          lat := { s.lat with
            rx := [byte1 v, byte2 v, byte3 v]
            fr := { raw := code, res := .bits16, chidv := s.chidEn, chid := if s.chidEn then nib else 0 } } }) ∧
    (s.family = .adc24 → ∀ ignored code,
      exec (.f24Rx ignored code) s = .next
        { s with
          lat := { s.lat with
            rx := frameBytes (layout24 ignored code)
            fr := { raw := code.signExtend 16, res := .bits12, chidv := false, chid := 0 } } })

/-- R101: the control-word rows, run by themselves (the model's reading, log 8), build base | channel << 6 of their
base. Nothing else changes. -/
def Obligations.ControlWordRowsPlaceTheChannel : Prop :=
  ∀ s : State, s.family = .adc24 →
    (∀ ch : BitVec 4, exec (.cw12Manual ch) s = .next
      { s with lat := { s.lat with cw := s.cfg.baseManual ||| BitVec.ofNat 12 (ch.toNat * 64) } }) ∧
    ∀ stop : BitVec 4, exec (.cw12Seq stop) s = .next
      { s with lat := { s.lat with cw := s.cfg.baseSeq ||| BitVec.ofNat 12 (stop.toNat * 64) } }

/-- R100: the mask that the mask row builds, run by itself (the model's reading, log 8), has bit i = 1 iff i ≤ stop.
Nothing else changes. -/
def Obligations.MaskRowSetsTheChannelsUpToStop : Prop :=
  ∀ (s : State) (stop : BitVec 3), s.family = .adc20 → stop ≠ 0#3 →
    ∃ m : Byte, exec (.mask20 stop) s = .next { s with lat := { s.lat with mask := m } } ∧
      m = BitVec.ofNat 8 (2 ^ (stop.toNat + 1) - 1) ∧ ∀ i < 8, m.getLsbD i = decide (i ≤ stop.toNat)

/-- R51: a wire row of the other family has no exchange on this block: the model's stop (log 8). -/
def Obligations.WireRowsOfTheOtherFamilyStop : Prop :=
  ∀ (s : State) (i : Instr), i.kind = .wireFrame → i.onFamily s.family = false →
    exec i s = .refused .frameOfOtherFamily

/-! ### Frames and the validator -/

/-- R98, R99, R143: the ADC20 frame as one 24-bit number: 12-bit code in [23:12] and nibble in [11:8] when OSR = 0,
16-bit code in [23:8] and nibble in [7:4] when OSR is not 0; the nibble counts only when CHID_EN = 1. -/
def Obligations.Frame20FollowsItsLayout : Prop :=
  ∀ (osr : BitVec 3) (chidEn : Bool) (r1 r2 r3 : Byte),
    let f := r1.toNat * 65536 + r2.toNat * 256 + r3.toNat
    let fr := decodeFrame20 osr chidEn r1 r2 r3
    fr.chidv = chidEn ∧ (chidEn = false → fr.chid = 0#4) ∧
    (osr = 0#3 → fr.res = .bits12 ∧ fr.raw.toNat = f / 4096 ∧ (chidEn = true → fr.chid.toNat = f / 256 % 16)) ∧
    (osr ≠ 0#3 → fr.res = .bits16 ∧ fr.raw.toNat = f / 256 ∧ (chidEn = true → fr.chid.toNat = f / 16 % 16))

/-- R104, R173, R174, 93 U10: an ADC24 frame gives its low 12 bits with their sign, whatever bits [15:12] are. -/
def Obligations.Frame24SignExtendsTheLowTwelveBits : Prop :=
  ∀ r1 r2 : Byte,
    let code := (r1.toNat * 256 + r2.toNat) % 4096
    let fr := decodeFrame24 (pairFrame r1 r2)
    fr.raw.toInt = (if code < 2048 then (code : Int) else (code : Int) - 4096) ∧
      fr.res = .bits12 ∧ fr.chidv = false ∧ fr.chid = 0#4

/-- R89, R90 (the spec's own decision D23), R22, R210 (D3), R29 (D12), R21, R229: the packings of a response and of a
sample record put each field where the rule says and 0 above; while BUSY = 0 the host reads STATUS and ST by their
numeric codes, the other result registers and status bits by their values, and the response with them packed. -/
def Obligations.PackedWordsHoldTheirFields : Prop :=
  (∀ (st : BitVec 3) (r : Word) (n : Byte),
    let p := packResponse st r n
    p.extractLsb' 0 32 = r ∧ p.extractLsb' 32 8 = n ∧ p.extractLsb' 40 3 = st ∧ p.extractLsb' 43 21 = 0#21) ∧
  (∀ r : Sample,
    let p := packSample r
    p.extractLsb' 0 32 = r.mv ∧ p.extractLsb' 32 16 = r.raw ∧ p.getLsbD 48 = decide (r.res = .bits16) ∧
      p.getLsbD 49 = r.chidv ∧ p.extractLsb' 50 4 = r.chid ∧ p.extractLsb' 54 8 = r.seqIdx ∧
      p.extractLsb' 62 2 = 0#2) ∧
  ∀ s : State, s.busy = false →
    let status : Nat :=
      (match s.status with
        | .ok => 0 | .invalidArgument => 1 | .ioError => 2 | .protocolDesync => 3 | .illegalCommand => 4)
    let st : Nat := (match s.st with | .idle => 0 | .configured => 1 | .manual => 2 | .sequencing => 3)
    hostResponse s = some (packResponse (BitVec.ofNat 3 status) s.result s.nsamp) ∧
      hostRead .STATUS s = some (BitVec.ofNat 32 status) ∧ hostRead .ST s = some (BitVec.ofNat 32 st) ∧
      hostRead .RESULT s = some s.result ∧ hostRead .NSAMP s = some (s.nsamp.setWidth 32) ∧
      hostRead .RAW s = some (s.raw.setWidth 32) ∧ hostRead .MV s = some s.mv ∧
      hostRead .RES s = some (match s.res with | .bits12 => 0 | .bits16 => 1) ∧
      hostRead .CHIDV s = some (if s.chidv then 1 else 0) ∧ hostRead .CHID s = some (s.chid.setWidth 32) ∧
      hostRead .INITED s = some (if s.inited then 1 else 0) ∧ hostRead .OSR s = some (s.osr.setWidth 32) ∧
      hostRead .CHID_EN s = some (if s.chidEn then 1 else 0)

/-! ### The converter -/

/-- R190 (exact integers and the two full-scale codes: the spec's own decision D22), R193: the converter's value is
the exact quotient truncated toward zero: it has the sign of the code, and its magnitude is the greatest whose FS-fold
does not exceed that of the product. -/
def Obligations.ConverterTruncatesTowardZero : Prop :=
  ∀ (v : Int) (res : Resolution) (vr : Nat),
    let q := toMv v res vr
    let fs : Int := (match res with | .bits12 => 4095 | .bits16 => 65535)
    (0 ≤ v → 0 ≤ q ∧ q * fs ≤ v * vr ∧ v * vr < (q + 1) * fs) ∧
    (v ≤ 0 → q ≤ 0 ∧ v * vr ≤ q * fs ∧ (q - 1) * fs < v * vr)

/-- R195 (a) to (d): monotonic in the code, 0 at 0, exactly the range at full scale, odd. -/
def Obligations.ConverterIsMonotonicAndOdd : Prop :=
  ∀ (v v' : Int) (res : Resolution) (vr : Nat),
    (v ≤ v' → toMv v res vr ≤ toMv v' res vr) ∧ toMv 0 res vr = 0 ∧
      toMv (match res with | .bits12 => 4095 | .bits16 => 65535) res vr = vr ∧ toMv (-v) res vr = -toMv v res vr

/-- R195 (f): with a range that meets R10 the value of every 16-bit pattern fits the 32 bits of MV. -/
def Obligations.MillivoltsFitTheirRegister : Prop :=
  ∀ (cfg : Cfg) (fam : Family) (raw : Half) (res : Resolution), cfg.ok = true →
    (millivolts cfg fam raw res).toInt = toMv (codeValue raw res) res (vrange cfg fam)

/-- R196, which the spec marks as derived, for any range: on ADC24 no 12-bit code gives more than 0x7FF does, 0x000
gives 0, and 0x800 gives what no code goes below. With the suggested range 2500 (the spec's own decision D22; log 4)
0x7FF gives 1249 and 0x800 gives -1250. -/
def Obligations.Adc24SignsAreThoseOfTheCode : Prop :=
  (∀ (code : BitVec 12) (vr : Nat),
    toMv (signExt24 code).toInt .bits12 vr ≤ toMv (signExt24 0x7FF).toInt .bits12 vr ∧
      toMv (signExt24 0x800).toInt .bits12 vr ≤ toMv (signExt24 code).toInt .bits12 vr) ∧
  (∀ vr : Nat, toMv (signExt24 0x000).toInt .bits12 vr = 0) ∧
  toMv (signExt24 0x800).toInt .bits12 2500 = -1250 ∧ toMv (signExt24 0x7FF).toInt .bits12 2500 = 1249
end

