-- ==== Sys2Proof/Laws/Decode.lean ====
section
/-! SUPPORT. The bits of a placed field, the fields of a packed command word, and the words that fields determine. -/

namespace Sys2Proof

/-- The bits of a placed field. -/
theorem getElem_place (n lo : Nat) {width : Nat} (x : BitVec width) (i : Nat) (h : i < n) :
    (place n lo x)[i] = (decide (lo ≤ i) && x.getLsbD (i - lo)) := by
  by_cases h2 : i < lo
  · simp [place, BitVec.getElem_shiftLeft, h2]
  · simp [place, BitVec.getElem_shiftLeft, BitVec.getElem_setWidth, h2, Nat.not_lt.mp h2]

/-! ### Command words (R81) -/

@[simp] theorem opcField_packWord (opc rsv : BitVec 4) (a : Byte) (b : Half) :
    opcField (packWord opc rsv a b) = opc := by
  apply BitVec.eq_of_getLsbD_eq
  intro i hi
  interval_cases i <;> simp [opcField, packWord, getElem_place]

@[simp] theorem rsvField_packWord (opc rsv : BitVec 4) (a : Byte) (b : Half) :
    rsvField (packWord opc rsv a b) = rsv := by
  apply BitVec.eq_of_getLsbD_eq
  intro i hi
  interval_cases i <;> simp [rsvField, packWord, getElem_place]

@[simp] theorem fieldA_packWord (opc rsv : BitVec 4) (a : Byte) (b : Half) :
    fieldA (packWord opc rsv a b) = a := by
  apply BitVec.eq_of_getLsbD_eq
  intro i hi
  interval_cases i <;> simp [fieldA, packWord, getElem_place]

@[simp] theorem fieldB_packWord (opc rsv : BitVec 4) (a : Byte) (b : Half) :
    fieldB (packWord opc rsv a b) = b := by
  apply BitVec.eq_of_getLsbD_eq
  intro i hi
  interval_cases i <;> simp [fieldB, packWord, getElem_place]

@[simp] theorem opcField_reservedWord (opc : BitVec 4) (rest : BitVec 28) :
    opcField (reservedWord opc rest) = opc := by
  apply BitVec.eq_of_getLsbD_eq
  intro i hi
  interval_cases i <;> simp [opcField, reservedWord, getElem_place]

@[simp] theorem restField_reservedWord (opc : BitVec 4) (rest : BitVec 28) :
    restField (reservedWord opc rest) = rest := by
  apply BitVec.eq_of_getLsbD_eq
  intro i hi
  interval_cases i <;> simp [restField, reservedWord, getElem_place]

/-- A word is its four fields. -/
theorem packWord_fields (w : Word) : packWord (opcField w) (rsvField w) (fieldA w) (fieldB w) = w := by
  apply BitVec.eq_of_getLsbD_eq
  intro i hi
  interval_cases i <;> simp [opcField, rsvField, fieldA, fieldB, packWord, getElem_place]

/-- A word is its opcode and the rest. -/
theorem reservedWord_fields (w : Word) : reservedWord (opcField w) (restField w) = w := by
  apply BitVec.eq_of_getLsbD_eq
  intro i hi
  interval_cases i <;> simp [opcField, restField, reservedWord, getElem_place]

/-! ### Frames -/

@[simp] theorem byte1_frame3 (b1 b2 b3 : Byte) : byte1 (frame3 b1 b2 b3) = b1 := by
  apply BitVec.eq_of_getLsbD_eq
  intro i hi
  interval_cases i <;> simp [byte1, frame3, getElem_place]

@[simp] theorem byte2_frame3 (b1 b2 b3 : Byte) : byte2 (frame3 b1 b2 b3) = b2 := by
  apply BitVec.eq_of_getLsbD_eq
  intro i hi
  interval_cases i <;> simp [byte2, frame3, getElem_place]

@[simp] theorem byte3_frame3 (b1 b2 b3 : Byte) : byte3 (frame3 b1 b2 b3) = b3 := by
  apply BitVec.eq_of_getLsbD_eq
  intro i hi
  interval_cases i <;> simp [byte3, frame3, getElem_place]

end Sys2Proof
end

