-- ==== Sys2Proof/Laws/State.lean ====
section
/-! SUPPORT. One lemma per field of State per update, true by rfl, so that no proof unfolds a record update. -/

namespace Sys2Proof.Machine

/-! ### accept (R214) -/

@[simp] theorem accept_family (w : Word) (s : State) : (accept w s).family = s.family := rfl
@[simp] theorem accept_st (w : Word) (s : State) : (accept w s).st = s.st := rfl
@[simp] theorem accept_inited (w : Word) (s : State) : (accept w s).inited = s.inited := rfl
@[simp] theorem accept_osr (w : Word) (s : State) : (accept w s).osr = s.osr := rfl
@[simp] theorem accept_chidEn (w : Word) (s : State) : (accept w s).chidEn = s.chidEn := rfl
@[simp] theorem accept_busy (w : Word) (s : State) : (accept w s).busy = true := rfl
@[simp] theorem accept_status (w : Word) (s : State) : (accept w s).status = s.status := rfl
@[simp] theorem accept_result (w : Word) (s : State) : (accept w s).result = s.result := rfl
@[simp] theorem accept_nsamp (w : Word) (s : State) : (accept w s).nsamp = s.nsamp := rfl
@[simp] theorem accept_raw (w : Word) (s : State) : (accept w s).raw = s.raw := rfl
@[simp] theorem accept_res (w : Word) (s : State) : (accept w s).res = s.res := rfl
@[simp] theorem accept_chidv (w : Word) (s : State) : (accept w s).chidv = s.chidv := rfl
@[simp] theorem accept_chid (w : Word) (s : State) : (accept w s).chid = s.chid := rfl
@[simp] theorem accept_mv (w : Word) (s : State) : (accept w s).mv = s.mv := rfl
@[simp] theorem accept_opw (w : Word) (s : State) : (accept w s).opw = w := rfl
@[simp] theorem accept_stepNo (w : Word) (s : State) : (accept w s).stepNo = 0 := rfl
@[simp] theorem accept_idx (w : Word) (s : State) : (accept w s).idx = 0 := rfl
@[simp] theorem accept_pend (w : Word) (s : State) : (accept w s).pend = .ok := rfl
@[simp] theorem accept_out (w : Word) (s : State) : (accept w s).out = s.out := rfl
@[simp] theorem accept_trace (w : Word) (s : State) : (accept w s).trace = s.trace := rfl
@[simp] theorem accept_responses (w : Word) (s : State) : (accept w s).responses = s.responses := rfl
@[simp] theorem accept_port (w : Word) (s : State) : (accept w s).port = s.port := rfl
@[simp] theorem accept_answers (w : Word) (s : State) : (accept w s).answers = s.answers := rfl
@[simp] theorem accept_cfg (w : Word) (s : State) : (accept w s).cfg = s.cfg := rfl
@[simp] theorem accept_lat (w : Word) (s : State) : (accept w s).lat = s.lat := rfl

/-! ### finish (R15) -/

@[simp] theorem finish_family (st : Status) (r : Word) (n : Byte) (s : State) : (finish st r n s).family = s.family := rfl
@[simp] theorem finish_st (st : Status) (r : Word) (n : Byte) (s : State) : (finish st r n s).st = s.st := rfl
@[simp] theorem finish_inited (st : Status) (r : Word) (n : Byte) (s : State) : (finish st r n s).inited = s.inited := rfl
@[simp] theorem finish_osr (st : Status) (r : Word) (n : Byte) (s : State) : (finish st r n s).osr = s.osr := rfl
@[simp] theorem finish_chidEn (st : Status) (r : Word) (n : Byte) (s : State) : (finish st r n s).chidEn = s.chidEn := rfl
@[simp] theorem finish_busy (st : Status) (r : Word) (n : Byte) (s : State) : (finish st r n s).busy = false := rfl
@[simp] theorem finish_status (st : Status) (r : Word) (n : Byte) (s : State) : (finish st r n s).status = st := rfl
@[simp] theorem finish_result (st : Status) (r : Word) (n : Byte) (s : State) : (finish st r n s).result = r := rfl
@[simp] theorem finish_nsamp (st : Status) (r : Word) (n : Byte) (s : State) : (finish st r n s).nsamp = n := rfl
@[simp] theorem finish_raw (st : Status) (r : Word) (n : Byte) (s : State) : (finish st r n s).raw = s.raw := rfl
@[simp] theorem finish_res (st : Status) (r : Word) (n : Byte) (s : State) : (finish st r n s).res = s.res := rfl
@[simp] theorem finish_chidv (st : Status) (r : Word) (n : Byte) (s : State) : (finish st r n s).chidv = s.chidv := rfl
@[simp] theorem finish_chid (st : Status) (r : Word) (n : Byte) (s : State) : (finish st r n s).chid = s.chid := rfl
@[simp] theorem finish_mv (st : Status) (r : Word) (n : Byte) (s : State) : (finish st r n s).mv = s.mv := rfl
@[simp] theorem finish_opw (st : Status) (r : Word) (n : Byte) (s : State) : (finish st r n s).opw = s.opw := rfl
@[simp] theorem finish_stepNo (st : Status) (r : Word) (n : Byte) (s : State) : (finish st r n s).stepNo = s.stepNo := rfl
@[simp] theorem finish_idx (st : Status) (r : Word) (n : Byte) (s : State) : (finish st r n s).idx = s.idx := rfl
@[simp] theorem finish_pend (st : Status) (r : Word) (n : Byte) (s : State) : (finish st r n s).pend = s.pend := rfl
@[simp] theorem finish_out (st : Status) (r : Word) (n : Byte) (s : State) : (finish st r n s).out = s.out := rfl
@[simp] theorem finish_trace (st : Status) (r : Word) (n : Byte) (s : State) : (finish st r n s).trace = s.trace := rfl
@[simp] theorem finish_responses (st : Status) (r : Word) (n : Byte) (s : State) : (finish st r n s).responses = s.responses ++ [{ status := st, result := r, nsamp := n }] := rfl
@[simp] theorem finish_port (st : Status) (r : Word) (n : Byte) (s : State) : (finish st r n s).port = s.port := rfl
@[simp] theorem finish_answers (st : Status) (r : Word) (n : Byte) (s : State) : (finish st r n s).answers = s.answers := rfl
@[simp] theorem finish_cfg (st : Status) (r : Word) (n : Byte) (s : State) : (finish st r n s).cfg = s.cfg := rfl
@[simp] theorem finish_lat (st : Status) (r : Word) (n : Byte) (s : State) : (finish st r n s).lat = s.lat := rfl

/-! ### recordExchange (R50, R16) -/

@[simp] theorem recordExchange_family (tx : List Byte) (hold : Bool) (rx : Option (List Byte)) (s : State) : (recordExchange tx hold rx s).family = s.family := rfl
@[simp] theorem recordExchange_st (tx : List Byte) (hold : Bool) (rx : Option (List Byte)) (s : State) : (recordExchange tx hold rx s).st = s.st := rfl
@[simp] theorem recordExchange_inited (tx : List Byte) (hold : Bool) (rx : Option (List Byte)) (s : State) : (recordExchange tx hold rx s).inited = s.inited := rfl
@[simp] theorem recordExchange_osr (tx : List Byte) (hold : Bool) (rx : Option (List Byte)) (s : State) : (recordExchange tx hold rx s).osr = s.osr := rfl
@[simp] theorem recordExchange_chidEn (tx : List Byte) (hold : Bool) (rx : Option (List Byte)) (s : State) : (recordExchange tx hold rx s).chidEn = s.chidEn := rfl
@[simp] theorem recordExchange_busy (tx : List Byte) (hold : Bool) (rx : Option (List Byte)) (s : State) : (recordExchange tx hold rx s).busy = s.busy := rfl
@[simp] theorem recordExchange_status (tx : List Byte) (hold : Bool) (rx : Option (List Byte)) (s : State) : (recordExchange tx hold rx s).status = s.status := rfl
@[simp] theorem recordExchange_result (tx : List Byte) (hold : Bool) (rx : Option (List Byte)) (s : State) : (recordExchange tx hold rx s).result = s.result := rfl
@[simp] theorem recordExchange_nsamp (tx : List Byte) (hold : Bool) (rx : Option (List Byte)) (s : State) : (recordExchange tx hold rx s).nsamp = s.nsamp := rfl
@[simp] theorem recordExchange_raw (tx : List Byte) (hold : Bool) (rx : Option (List Byte)) (s : State) : (recordExchange tx hold rx s).raw = s.raw := rfl
@[simp] theorem recordExchange_res (tx : List Byte) (hold : Bool) (rx : Option (List Byte)) (s : State) : (recordExchange tx hold rx s).res = s.res := rfl
@[simp] theorem recordExchange_chidv (tx : List Byte) (hold : Bool) (rx : Option (List Byte)) (s : State) : (recordExchange tx hold rx s).chidv = s.chidv := rfl
@[simp] theorem recordExchange_chid (tx : List Byte) (hold : Bool) (rx : Option (List Byte)) (s : State) : (recordExchange tx hold rx s).chid = s.chid := rfl
@[simp] theorem recordExchange_mv (tx : List Byte) (hold : Bool) (rx : Option (List Byte)) (s : State) : (recordExchange tx hold rx s).mv = s.mv := rfl
@[simp] theorem recordExchange_opw (tx : List Byte) (hold : Bool) (rx : Option (List Byte)) (s : State) : (recordExchange tx hold rx s).opw = s.opw := rfl
@[simp] theorem recordExchange_stepNo (tx : List Byte) (hold : Bool) (rx : Option (List Byte)) (s : State) : (recordExchange tx hold rx s).stepNo = s.stepNo + 1 := rfl
@[simp] theorem recordExchange_idx (tx : List Byte) (hold : Bool) (rx : Option (List Byte)) (s : State) : (recordExchange tx hold rx s).idx = s.idx := rfl
@[simp] theorem recordExchange_pend (tx : List Byte) (hold : Bool) (rx : Option (List Byte)) (s : State) : (recordExchange tx hold rx s).pend = s.pend := rfl
@[simp] theorem recordExchange_out (tx : List Byte) (hold : Bool) (rx : Option (List Byte)) (s : State) : (recordExchange tx hold rx s).out = s.out := rfl
@[simp] theorem recordExchange_trace (tx : List Byte) (hold : Bool) (rx : Option (List Byte)) (s : State) : (recordExchange tx hold rx s).trace = s.trace ++ [{ tx := tx, hold := hold, rx := rx }] := rfl
@[simp] theorem recordExchange_responses (tx : List Byte) (hold : Bool) (rx : Option (List Byte)) (s : State) : (recordExchange tx hold rx s).responses = s.responses := rfl
@[simp] theorem recordExchange_port (tx : List Byte) (hold : Bool) (rx : Option (List Byte)) (s : State) : (recordExchange tx hold rx s).port = s.port := rfl
@[simp] theorem recordExchange_answers (tx : List Byte) (hold : Bool) (rx : Option (List Byte)) (s : State) : (recordExchange tx hold rx s).answers = s.answers.tail := rfl
@[simp] theorem recordExchange_cfg (tx : List Byte) (hold : Bool) (rx : Option (List Byte)) (s : State) : (recordExchange tx hold rx s).cfg = s.cfg := rfl
@[simp] theorem recordExchange_lat (tx : List Byte) (hold : Bool) (rx : Option (List Byte)) (s : State) : (recordExchange tx hold rx s).lat = { s.lat with rx := rx.getD s.lat.rx } := rfl

/-! ### emit (R33) -/

@[simp] theorem emit_family (r : Sample) (s : State) : (emit r s).family = s.family := rfl
@[simp] theorem emit_st (r : Sample) (s : State) : (emit r s).st = s.st := rfl
@[simp] theorem emit_inited (r : Sample) (s : State) : (emit r s).inited = s.inited := rfl
@[simp] theorem emit_osr (r : Sample) (s : State) : (emit r s).osr = s.osr := rfl
@[simp] theorem emit_chidEn (r : Sample) (s : State) : (emit r s).chidEn = s.chidEn := rfl
@[simp] theorem emit_busy (r : Sample) (s : State) : (emit r s).busy = s.busy := rfl
@[simp] theorem emit_status (r : Sample) (s : State) : (emit r s).status = s.status := rfl
@[simp] theorem emit_result (r : Sample) (s : State) : (emit r s).result = s.result := rfl
@[simp] theorem emit_nsamp (r : Sample) (s : State) : (emit r s).nsamp = s.nsamp := rfl
@[simp] theorem emit_raw (r : Sample) (s : State) : (emit r s).raw = r.raw := rfl
@[simp] theorem emit_res (r : Sample) (s : State) : (emit r s).res = r.res := rfl
@[simp] theorem emit_chidv (r : Sample) (s : State) : (emit r s).chidv = r.chidv := rfl
@[simp] theorem emit_chid (r : Sample) (s : State) : (emit r s).chid = r.chid := rfl
@[simp] theorem emit_mv (r : Sample) (s : State) : (emit r s).mv = r.mv := rfl
@[simp] theorem emit_opw (r : Sample) (s : State) : (emit r s).opw = s.opw := rfl
@[simp] theorem emit_stepNo (r : Sample) (s : State) : (emit r s).stepNo = s.stepNo := rfl
@[simp] theorem emit_idx (r : Sample) (s : State) : (emit r s).idx = s.idx + 1 := rfl
@[simp] theorem emit_pend (r : Sample) (s : State) : (emit r s).pend = s.pend := rfl
@[simp] theorem emit_out (r : Sample) (s : State) : (emit r s).out = s.out ++ [r] := rfl
@[simp] theorem emit_trace (r : Sample) (s : State) : (emit r s).trace = s.trace := rfl
@[simp] theorem emit_responses (r : Sample) (s : State) : (emit r s).responses = s.responses := rfl
@[simp] theorem emit_port (r : Sample) (s : State) : (emit r s).port = s.port := rfl
@[simp] theorem emit_answers (r : Sample) (s : State) : (emit r s).answers = s.answers := rfl
@[simp] theorem emit_cfg (r : Sample) (s : State) : (emit r s).cfg = s.cfg := rfl
@[simp] theorem emit_lat (r : Sample) (s : State) : (emit r s).lat = s.lat := rfl

/-! ### latchFrame (the latch) -/

@[simp] theorem latchFrame_family (fr : Frame) (s : State) : (latchFrame fr s).family = s.family := rfl
@[simp] theorem latchFrame_st (fr : Frame) (s : State) : (latchFrame fr s).st = s.st := rfl
@[simp] theorem latchFrame_inited (fr : Frame) (s : State) : (latchFrame fr s).inited = s.inited := rfl
@[simp] theorem latchFrame_osr (fr : Frame) (s : State) : (latchFrame fr s).osr = s.osr := rfl
@[simp] theorem latchFrame_chidEn (fr : Frame) (s : State) : (latchFrame fr s).chidEn = s.chidEn := rfl
@[simp] theorem latchFrame_busy (fr : Frame) (s : State) : (latchFrame fr s).busy = s.busy := rfl
@[simp] theorem latchFrame_status (fr : Frame) (s : State) : (latchFrame fr s).status = s.status := rfl
@[simp] theorem latchFrame_result (fr : Frame) (s : State) : (latchFrame fr s).result = s.result := rfl
@[simp] theorem latchFrame_nsamp (fr : Frame) (s : State) : (latchFrame fr s).nsamp = s.nsamp := rfl
@[simp] theorem latchFrame_raw (fr : Frame) (s : State) : (latchFrame fr s).raw = s.raw := rfl
@[simp] theorem latchFrame_res (fr : Frame) (s : State) : (latchFrame fr s).res = s.res := rfl
@[simp] theorem latchFrame_chidv (fr : Frame) (s : State) : (latchFrame fr s).chidv = s.chidv := rfl
@[simp] theorem latchFrame_chid (fr : Frame) (s : State) : (latchFrame fr s).chid = s.chid := rfl
@[simp] theorem latchFrame_mv (fr : Frame) (s : State) : (latchFrame fr s).mv = s.mv := rfl
@[simp] theorem latchFrame_opw (fr : Frame) (s : State) : (latchFrame fr s).opw = s.opw := rfl
@[simp] theorem latchFrame_stepNo (fr : Frame) (s : State) : (latchFrame fr s).stepNo = s.stepNo := rfl
@[simp] theorem latchFrame_idx (fr : Frame) (s : State) : (latchFrame fr s).idx = s.idx := rfl
@[simp] theorem latchFrame_pend (fr : Frame) (s : State) : (latchFrame fr s).pend = s.pend := rfl
@[simp] theorem latchFrame_out (fr : Frame) (s : State) : (latchFrame fr s).out = s.out := rfl
@[simp] theorem latchFrame_trace (fr : Frame) (s : State) : (latchFrame fr s).trace = s.trace := rfl
@[simp] theorem latchFrame_responses (fr : Frame) (s : State) : (latchFrame fr s).responses = s.responses := rfl
@[simp] theorem latchFrame_port (fr : Frame) (s : State) : (latchFrame fr s).port = s.port := rfl
@[simp] theorem latchFrame_answers (fr : Frame) (s : State) : (latchFrame fr s).answers = s.answers := rfl
@[simp] theorem latchFrame_cfg (fr : Frame) (s : State) : (latchFrame fr s).cfg = s.cfg := rfl
@[simp] theorem latchFrame_lat (fr : Frame) (s : State) : (latchFrame fr s).lat = { s.lat with fr := fr } := rfl

/-! ### latchRx (the latch) -/

@[simp] theorem latchRx_family (rx : List Byte) (s : State) : (latchRx rx s).family = s.family := rfl
@[simp] theorem latchRx_st (rx : List Byte) (s : State) : (latchRx rx s).st = s.st := rfl
@[simp] theorem latchRx_inited (rx : List Byte) (s : State) : (latchRx rx s).inited = s.inited := rfl
@[simp] theorem latchRx_osr (rx : List Byte) (s : State) : (latchRx rx s).osr = s.osr := rfl
@[simp] theorem latchRx_chidEn (rx : List Byte) (s : State) : (latchRx rx s).chidEn = s.chidEn := rfl
@[simp] theorem latchRx_busy (rx : List Byte) (s : State) : (latchRx rx s).busy = s.busy := rfl
@[simp] theorem latchRx_status (rx : List Byte) (s : State) : (latchRx rx s).status = s.status := rfl
@[simp] theorem latchRx_result (rx : List Byte) (s : State) : (latchRx rx s).result = s.result := rfl
@[simp] theorem latchRx_nsamp (rx : List Byte) (s : State) : (latchRx rx s).nsamp = s.nsamp := rfl
@[simp] theorem latchRx_raw (rx : List Byte) (s : State) : (latchRx rx s).raw = s.raw := rfl
@[simp] theorem latchRx_res (rx : List Byte) (s : State) : (latchRx rx s).res = s.res := rfl
@[simp] theorem latchRx_chidv (rx : List Byte) (s : State) : (latchRx rx s).chidv = s.chidv := rfl
@[simp] theorem latchRx_chid (rx : List Byte) (s : State) : (latchRx rx s).chid = s.chid := rfl
@[simp] theorem latchRx_mv (rx : List Byte) (s : State) : (latchRx rx s).mv = s.mv := rfl
@[simp] theorem latchRx_opw (rx : List Byte) (s : State) : (latchRx rx s).opw = s.opw := rfl
@[simp] theorem latchRx_stepNo (rx : List Byte) (s : State) : (latchRx rx s).stepNo = s.stepNo := rfl
@[simp] theorem latchRx_idx (rx : List Byte) (s : State) : (latchRx rx s).idx = s.idx := rfl
@[simp] theorem latchRx_pend (rx : List Byte) (s : State) : (latchRx rx s).pend = s.pend := rfl
@[simp] theorem latchRx_out (rx : List Byte) (s : State) : (latchRx rx s).out = s.out := rfl
@[simp] theorem latchRx_trace (rx : List Byte) (s : State) : (latchRx rx s).trace = s.trace := rfl
@[simp] theorem latchRx_responses (rx : List Byte) (s : State) : (latchRx rx s).responses = s.responses := rfl
@[simp] theorem latchRx_port (rx : List Byte) (s : State) : (latchRx rx s).port = s.port := rfl
@[simp] theorem latchRx_answers (rx : List Byte) (s : State) : (latchRx rx s).answers = s.answers := rfl
@[simp] theorem latchRx_cfg (rx : List Byte) (s : State) : (latchRx rx s).cfg = s.cfg := rfl
@[simp] theorem latchRx_lat (rx : List Byte) (s : State) : (latchRx rx s).lat = { s.lat with rx := rx } := rfl

/-! ### latchCw (the latch) -/

@[simp] theorem latchCw_family (cw : BitVec 12) (s : State) : (latchCw cw s).family = s.family := rfl
@[simp] theorem latchCw_st (cw : BitVec 12) (s : State) : (latchCw cw s).st = s.st := rfl
@[simp] theorem latchCw_inited (cw : BitVec 12) (s : State) : (latchCw cw s).inited = s.inited := rfl
@[simp] theorem latchCw_osr (cw : BitVec 12) (s : State) : (latchCw cw s).osr = s.osr := rfl
@[simp] theorem latchCw_chidEn (cw : BitVec 12) (s : State) : (latchCw cw s).chidEn = s.chidEn := rfl
@[simp] theorem latchCw_busy (cw : BitVec 12) (s : State) : (latchCw cw s).busy = s.busy := rfl
@[simp] theorem latchCw_status (cw : BitVec 12) (s : State) : (latchCw cw s).status = s.status := rfl
@[simp] theorem latchCw_result (cw : BitVec 12) (s : State) : (latchCw cw s).result = s.result := rfl
@[simp] theorem latchCw_nsamp (cw : BitVec 12) (s : State) : (latchCw cw s).nsamp = s.nsamp := rfl
@[simp] theorem latchCw_raw (cw : BitVec 12) (s : State) : (latchCw cw s).raw = s.raw := rfl
@[simp] theorem latchCw_res (cw : BitVec 12) (s : State) : (latchCw cw s).res = s.res := rfl
@[simp] theorem latchCw_chidv (cw : BitVec 12) (s : State) : (latchCw cw s).chidv = s.chidv := rfl
@[simp] theorem latchCw_chid (cw : BitVec 12) (s : State) : (latchCw cw s).chid = s.chid := rfl
@[simp] theorem latchCw_mv (cw : BitVec 12) (s : State) : (latchCw cw s).mv = s.mv := rfl
@[simp] theorem latchCw_opw (cw : BitVec 12) (s : State) : (latchCw cw s).opw = s.opw := rfl
@[simp] theorem latchCw_stepNo (cw : BitVec 12) (s : State) : (latchCw cw s).stepNo = s.stepNo := rfl
@[simp] theorem latchCw_idx (cw : BitVec 12) (s : State) : (latchCw cw s).idx = s.idx := rfl
@[simp] theorem latchCw_pend (cw : BitVec 12) (s : State) : (latchCw cw s).pend = s.pend := rfl
@[simp] theorem latchCw_out (cw : BitVec 12) (s : State) : (latchCw cw s).out = s.out := rfl
@[simp] theorem latchCw_trace (cw : BitVec 12) (s : State) : (latchCw cw s).trace = s.trace := rfl
@[simp] theorem latchCw_responses (cw : BitVec 12) (s : State) : (latchCw cw s).responses = s.responses := rfl
@[simp] theorem latchCw_port (cw : BitVec 12) (s : State) : (latchCw cw s).port = s.port := rfl
@[simp] theorem latchCw_answers (cw : BitVec 12) (s : State) : (latchCw cw s).answers = s.answers := rfl
@[simp] theorem latchCw_cfg (cw : BitVec 12) (s : State) : (latchCw cw s).cfg = s.cfg := rfl
@[simp] theorem latchCw_lat (cw : BitVec 12) (s : State) : (latchCw cw s).lat = { s.lat with cw := cw } := rfl

/-! ### latchMask (the latch) -/

@[simp] theorem latchMask_family (m : Byte) (s : State) : (latchMask m s).family = s.family := rfl
@[simp] theorem latchMask_st (m : Byte) (s : State) : (latchMask m s).st = s.st := rfl
@[simp] theorem latchMask_inited (m : Byte) (s : State) : (latchMask m s).inited = s.inited := rfl
@[simp] theorem latchMask_osr (m : Byte) (s : State) : (latchMask m s).osr = s.osr := rfl
@[simp] theorem latchMask_chidEn (m : Byte) (s : State) : (latchMask m s).chidEn = s.chidEn := rfl
@[simp] theorem latchMask_busy (m : Byte) (s : State) : (latchMask m s).busy = s.busy := rfl
@[simp] theorem latchMask_status (m : Byte) (s : State) : (latchMask m s).status = s.status := rfl
@[simp] theorem latchMask_result (m : Byte) (s : State) : (latchMask m s).result = s.result := rfl
@[simp] theorem latchMask_nsamp (m : Byte) (s : State) : (latchMask m s).nsamp = s.nsamp := rfl
@[simp] theorem latchMask_raw (m : Byte) (s : State) : (latchMask m s).raw = s.raw := rfl
@[simp] theorem latchMask_res (m : Byte) (s : State) : (latchMask m s).res = s.res := rfl
@[simp] theorem latchMask_chidv (m : Byte) (s : State) : (latchMask m s).chidv = s.chidv := rfl
@[simp] theorem latchMask_chid (m : Byte) (s : State) : (latchMask m s).chid = s.chid := rfl
@[simp] theorem latchMask_mv (m : Byte) (s : State) : (latchMask m s).mv = s.mv := rfl
@[simp] theorem latchMask_opw (m : Byte) (s : State) : (latchMask m s).opw = s.opw := rfl
@[simp] theorem latchMask_stepNo (m : Byte) (s : State) : (latchMask m s).stepNo = s.stepNo := rfl
@[simp] theorem latchMask_idx (m : Byte) (s : State) : (latchMask m s).idx = s.idx := rfl
@[simp] theorem latchMask_pend (m : Byte) (s : State) : (latchMask m s).pend = s.pend := rfl
@[simp] theorem latchMask_out (m : Byte) (s : State) : (latchMask m s).out = s.out := rfl
@[simp] theorem latchMask_trace (m : Byte) (s : State) : (latchMask m s).trace = s.trace := rfl
@[simp] theorem latchMask_responses (m : Byte) (s : State) : (latchMask m s).responses = s.responses := rfl
@[simp] theorem latchMask_port (m : Byte) (s : State) : (latchMask m s).port = s.port := rfl
@[simp] theorem latchMask_answers (m : Byte) (s : State) : (latchMask m s).answers = s.answers := rfl
@[simp] theorem latchMask_cfg (m : Byte) (s : State) : (latchMask m s).cfg = s.cfg := rfl
@[simp] theorem latchMask_lat (m : Byte) (s : State) : (latchMask m s).lat = { s.lat with mask := m } := rfl

/-! ### takeRequest (R80) -/

@[simp] theorem takeRequest_family (s : State) : (takeRequest s).family = s.family := rfl
@[simp] theorem takeRequest_st (s : State) : (takeRequest s).st = s.st := rfl
@[simp] theorem takeRequest_inited (s : State) : (takeRequest s).inited = s.inited := rfl
@[simp] theorem takeRequest_osr (s : State) : (takeRequest s).osr = s.osr := rfl
@[simp] theorem takeRequest_chidEn (s : State) : (takeRequest s).chidEn = s.chidEn := rfl
@[simp] theorem takeRequest_busy (s : State) : (takeRequest s).busy = s.busy := rfl
@[simp] theorem takeRequest_status (s : State) : (takeRequest s).status = s.status := rfl
@[simp] theorem takeRequest_result (s : State) : (takeRequest s).result = s.result := rfl
@[simp] theorem takeRequest_nsamp (s : State) : (takeRequest s).nsamp = s.nsamp := rfl
@[simp] theorem takeRequest_raw (s : State) : (takeRequest s).raw = s.raw := rfl
@[simp] theorem takeRequest_res (s : State) : (takeRequest s).res = s.res := rfl
@[simp] theorem takeRequest_chidv (s : State) : (takeRequest s).chidv = s.chidv := rfl
@[simp] theorem takeRequest_chid (s : State) : (takeRequest s).chid = s.chid := rfl
@[simp] theorem takeRequest_mv (s : State) : (takeRequest s).mv = s.mv := rfl
@[simp] theorem takeRequest_opw (s : State) : (takeRequest s).opw = s.opw := rfl
@[simp] theorem takeRequest_stepNo (s : State) : (takeRequest s).stepNo = s.stepNo := rfl
@[simp] theorem takeRequest_idx (s : State) : (takeRequest s).idx = s.idx := rfl
@[simp] theorem takeRequest_pend (s : State) : (takeRequest s).pend = s.pend := rfl
@[simp] theorem takeRequest_out (s : State) : (takeRequest s).out = s.out := rfl
@[simp] theorem takeRequest_trace (s : State) : (takeRequest s).trace = s.trace := rfl
@[simp] theorem takeRequest_responses (s : State) : (takeRequest s).responses = s.responses := rfl
@[simp] theorem takeRequest_port (s : State) : (takeRequest s).port = s.port.tail := rfl
@[simp] theorem takeRequest_answers (s : State) : (takeRequest s).answers = s.answers := rfl
@[simp] theorem takeRequest_cfg (s : State) : (takeRequest s).cfg = s.cfg := rfl
@[simp] theorem takeRequest_lat (s : State) : (takeRequest s).lat = s.lat := rfl

/-! ### blockReset (R240) -/

@[simp] theorem blockReset_family (s : State) : (blockReset s).family = s.family := rfl
@[simp] theorem blockReset_st (s : State) : (blockReset s).st = .idle := rfl
@[simp] theorem blockReset_inited (s : State) : (blockReset s).inited = false := rfl
@[simp] theorem blockReset_osr (s : State) : (blockReset s).osr = 0 := rfl
@[simp] theorem blockReset_chidEn (s : State) : (blockReset s).chidEn = false := rfl
@[simp] theorem blockReset_busy (s : State) : (blockReset s).busy = false := rfl
@[simp] theorem blockReset_status (s : State) : (blockReset s).status = .ok := rfl
@[simp] theorem blockReset_result (s : State) : (blockReset s).result = 0 := rfl
@[simp] theorem blockReset_nsamp (s : State) : (blockReset s).nsamp = 0 := rfl
@[simp] theorem blockReset_raw (s : State) : (blockReset s).raw = 0 := rfl
@[simp] theorem blockReset_res (s : State) : (blockReset s).res = .bits12 := rfl
@[simp] theorem blockReset_chidv (s : State) : (blockReset s).chidv = false := rfl
@[simp] theorem blockReset_chid (s : State) : (blockReset s).chid = 0 := rfl
@[simp] theorem blockReset_mv (s : State) : (blockReset s).mv = 0 := rfl
@[simp] theorem blockReset_opw (s : State) : (blockReset s).opw = 0 := rfl
@[simp] theorem blockReset_stepNo (s : State) : (blockReset s).stepNo = 0 := rfl
@[simp] theorem blockReset_idx (s : State) : (blockReset s).idx = 0 := rfl
@[simp] theorem blockReset_pend (s : State) : (blockReset s).pend = .ok := rfl
@[simp] theorem blockReset_out (s : State) : (blockReset s).out = [] := rfl
@[simp] theorem blockReset_trace (s : State) : (blockReset s).trace = s.trace := rfl
@[simp] theorem blockReset_responses (s : State) : (blockReset s).responses = s.responses := rfl
@[simp] theorem blockReset_port (s : State) : (blockReset s).port = s.port := rfl
@[simp] theorem blockReset_answers (s : State) : (blockReset s).answers = s.answers := rfl
@[simp] theorem blockReset_cfg (s : State) : (blockReset s).cfg = s.cfg := rfl
@[simp] theorem blockReset_lat (s : State) : (blockReset s).lat = Latch.clear := rfl

/-! ### dropSession and raise (R216) -/

@[simp] theorem dropSession_family (e : Status) (s : State) : (dropSession e s).family = s.family := by cases e <;> rfl
@[simp] theorem dropSession_osr (e : Status) (s : State) : (dropSession e s).osr = s.osr := by cases e <;> rfl
@[simp] theorem dropSession_chidEn (e : Status) (s : State) : (dropSession e s).chidEn = s.chidEn := by cases e <;> rfl
@[simp] theorem dropSession_busy (e : Status) (s : State) : (dropSession e s).busy = s.busy := by cases e <;> rfl
@[simp] theorem dropSession_status (e : Status) (s : State) : (dropSession e s).status = s.status := by cases e <;> rfl
@[simp] theorem dropSession_result (e : Status) (s : State) : (dropSession e s).result = s.result := by cases e <;> rfl
@[simp] theorem dropSession_nsamp (e : Status) (s : State) : (dropSession e s).nsamp = s.nsamp := by cases e <;> rfl
@[simp] theorem dropSession_raw (e : Status) (s : State) : (dropSession e s).raw = s.raw := by cases e <;> rfl
@[simp] theorem dropSession_res (e : Status) (s : State) : (dropSession e s).res = s.res := by cases e <;> rfl
@[simp] theorem dropSession_chidv (e : Status) (s : State) : (dropSession e s).chidv = s.chidv := by cases e <;> rfl
@[simp] theorem dropSession_chid (e : Status) (s : State) : (dropSession e s).chid = s.chid := by cases e <;> rfl
@[simp] theorem dropSession_mv (e : Status) (s : State) : (dropSession e s).mv = s.mv := by cases e <;> rfl
@[simp] theorem dropSession_opw (e : Status) (s : State) : (dropSession e s).opw = s.opw := by cases e <;> rfl
@[simp] theorem dropSession_stepNo (e : Status) (s : State) : (dropSession e s).stepNo = s.stepNo := by cases e <;> rfl
@[simp] theorem dropSession_idx (e : Status) (s : State) : (dropSession e s).idx = s.idx := by cases e <;> rfl
@[simp] theorem dropSession_pend (e : Status) (s : State) : (dropSession e s).pend = s.pend := by cases e <;> rfl
@[simp] theorem dropSession_out (e : Status) (s : State) : (dropSession e s).out = s.out := by cases e <;> rfl
@[simp] theorem dropSession_trace (e : Status) (s : State) : (dropSession e s).trace = s.trace := by cases e <;> rfl
@[simp] theorem dropSession_responses (e : Status) (s : State) : (dropSession e s).responses = s.responses := by cases e <;> rfl
@[simp] theorem dropSession_port (e : Status) (s : State) : (dropSession e s).port = s.port := by cases e <;> rfl
@[simp] theorem dropSession_answers (e : Status) (s : State) : (dropSession e s).answers = s.answers := by cases e <;> rfl
@[simp] theorem dropSession_cfg (e : Status) (s : State) : (dropSession e s).cfg = s.cfg := by cases e <;> rfl
@[simp] theorem dropSession_lat (e : Status) (s : State) : (dropSession e s).lat = s.lat := by cases e <;> rfl

@[simp] theorem raise_family (e : Status) (s : State) : (raise e s).family = s.family := by cases e <;> rfl
@[simp] theorem raise_osr (e : Status) (s : State) : (raise e s).osr = s.osr := by cases e <;> rfl
@[simp] theorem raise_chidEn (e : Status) (s : State) : (raise e s).chidEn = s.chidEn := by cases e <;> rfl
@[simp] theorem raise_busy (e : Status) (s : State) : (raise e s).busy = false := by cases e <;> rfl
@[simp] theorem raise_status (e : Status) (s : State) : (raise e s).status = e := by cases e <;> rfl
@[simp] theorem raise_result (e : Status) (s : State) : (raise e s).result = 0 := by cases e <;> rfl
@[simp] theorem raise_nsamp (e : Status) (s : State) : (raise e s).nsamp = s.idx := by cases e <;> rfl
@[simp] theorem raise_raw (e : Status) (s : State) : (raise e s).raw = s.raw := by cases e <;> rfl
@[simp] theorem raise_res (e : Status) (s : State) : (raise e s).res = s.res := by cases e <;> rfl
@[simp] theorem raise_chidv (e : Status) (s : State) : (raise e s).chidv = s.chidv := by cases e <;> rfl
@[simp] theorem raise_chid (e : Status) (s : State) : (raise e s).chid = s.chid := by cases e <;> rfl
@[simp] theorem raise_mv (e : Status) (s : State) : (raise e s).mv = s.mv := by cases e <;> rfl
@[simp] theorem raise_opw (e : Status) (s : State) : (raise e s).opw = s.opw := by cases e <;> rfl
@[simp] theorem raise_stepNo (e : Status) (s : State) : (raise e s).stepNo = s.stepNo := by cases e <;> rfl
@[simp] theorem raise_idx (e : Status) (s : State) : (raise e s).idx = s.idx := by cases e <;> rfl
@[simp] theorem raise_pend (e : Status) (s : State) : (raise e s).pend = s.pend := by cases e <;> rfl
@[simp] theorem raise_out (e : Status) (s : State) : (raise e s).out = s.out := by cases e <;> rfl
@[simp] theorem raise_trace (e : Status) (s : State) : (raise e s).trace = s.trace := by cases e <;> rfl
@[simp] theorem raise_responses (e : Status) (s : State) : (raise e s).responses = s.responses ++ [{ status := e, result := 0, nsamp := s.idx }] := by cases e <;> rfl
@[simp] theorem raise_port (e : Status) (s : State) : (raise e s).port = s.port := by cases e <;> rfl
@[simp] theorem raise_answers (e : Status) (s : State) : (raise e s).answers = s.answers := by cases e <;> rfl
@[simp] theorem raise_cfg (e : Status) (s : State) : (raise e s).cfg = s.cfg := by cases e <;> rfl
@[simp] theorem raise_lat (e : Status) (s : State) : (raise e s).lat = s.lat := by cases e <;> rfl

@[simp] theorem raise_ioError_st (s : State) : (raise .ioError s).st = .idle := rfl
@[simp] theorem raise_ioError_inited (s : State) : (raise .ioError s).inited = false := rfl
@[simp] theorem raise_protocolDesync_st (s : State) : (raise .protocolDesync s).st = .idle := rfl
@[simp] theorem raise_protocolDesync_inited (s : State) : (raise .protocolDesync s).inited = false := rfl
@[simp] theorem raise_invalidArgument_st (s : State) : (raise .invalidArgument s).st = s.st := rfl
@[simp] theorem raise_invalidArgument_inited (s : State) : (raise .invalidArgument s).inited = s.inited := rfl
@[simp] theorem raise_illegalCommand_st (s : State) : (raise .illegalCommand s).st = s.st := rfl
@[simp] theorem raise_illegalCommand_inited (s : State) : (raise .illegalCommand s).inited = s.inited := rfl
@[simp] theorem raise_ok_st (s : State) : (raise .ok s).st = s.st := rfl
@[simp] theorem raise_ok_inited (s : State) : (raise .ok s).inited = s.inited := rfl

end Sys2Proof.Machine
end

