-- ==== Sys2Proof/Laws/Ops.lean ====
section
/-! SUPPORT. For each shared operation, one lemma that says once what it can do. -/

namespace Sys2Proof.Machine

/-! ### The exchange (R50) -/

/-- An exchange leaves the record of itself, and gives what was received. -/
@[simp] theorem xchg_fst (tx : List Byte) (hold : Bool) (s : State) :
    (xchg tx hold s).1 = recordExchange tx hold (xchg tx hold s).2 s := rfl

/-- What an exchange gives, where an answer is listed. -/
theorem xchg_snd_listed {tx : List Byte} {hold : Bool} {s : State} {a : Answer} {rest : List Answer}
    (h : s.answers = a :: rest) : (xchg tx hold s).2 = received tx.length a := by
  simp [xchg, nextAnswer, h]

/-- What an exchange gives past the listed answers: the free value. -/
theorem xchg_snd_free {tx : List Byte} {hold : Bool} {s : State} (h : s.answers = []) :
    (xchg tx hold s).2 = received tx.length (Config.freeAnswer s.trace tx hold) := by
  simp [xchg, nextAnswer, h]

/-- Received bytes are as many as were transmitted (R51). -/
theorem received_length {n : Nat} {a : Answer} {rx : List Byte} (h : received n a = some rx) : rx.length = n := by
  cases a with
  | fail => cases h
  | ok r =>
    simp only [received] at h
    split at h
    · cases h; assumption
    · cases h

/-- So an exchange that was answered received as many bytes as it sent (R51). -/
theorem xchg_length {tx : List Byte} {hold : Bool} {s : State} {rx : List Byte} (h : (xchg tx hold s).2 = some rx) :
    rx.length = tx.length :=
  received_length h

@[simp] theorem received_fail (n : Nat) : received n .fail = none := rfl

@[simp] theorem orIoError_none {α : Type} (s : State) (k : State → α → State) :
    orIoError (s, none) k = raise .ioError s := rfl

@[simp] theorem orIoError_some {α : Type} (s : State) (a : α) (k : State → α → State) :
    orIoError (s, some a) k = k s a := rfl

/-- Going on after an exchange: IoError, or the rest with the bytes received. -/
theorem orIoError_cases {α : Type} (r : State × Option α) (k : State → α → State) :
    (r.2 = none ∧ orIoError r k = raise .ioError r.1) ∨ ∃ a, r.2 = some a ∧ orIoError r k = k r.1 a := by
  obtain ⟨s, _ | a⟩ := r
  · exact .inl ⟨rfl, rfl⟩
  · exact .inr ⟨a, rfl, rfl⟩

/-- `orIoError` keeps whatever both IoError and the rest establish. -/
theorem orIoError_keeps {α : Type} {P : State → Prop} {r : State × Option α} {k : State → α → State}
    (hfail : P (raise .ioError r.1)) (hok : ∀ a, r.2 = some a → P (k r.1 a)) : P (orIoError r k) := by
  obtain ⟨-, h⟩ | ⟨a, ha, h⟩ := orIoError_cases r k
  · exact h ▸ hfail
  · exact h ▸ hok a ha

/-! ### Frames (R143, R173) -/

/-- One read cycle decoded: a failure, or the frame latched and given. -/
theorem frame20_cases (s : State) :
    ((cycle20 s).2 = none ∧ frame20 s = ((cycle20 s).1, none)) ∨
      ∃ rx, (cycle20 s).2 = some rx ∧
        frame20 s = (latchFrame (rxFrame20 s.osr s.chidEn rx) (cycle20 s).1, some (rxFrame20 s.osr s.chidEn rx)) := by
  rcases h : cycle20 s with ⟨t, _ | rx⟩
  · exact .inl ⟨rfl, by simp [frame20, h]⟩
  · refine .inr ⟨rx, rfl, ?_⟩
    have ho : t.osr = s.osr ∧ t.chidEn = s.chidEn := by
      have := congrArg Prod.fst h
      simp only [cycle20, xchg_fst] at this
      exact ⟨by rw [← this]; simp, by rw [← this]; simp⟩
    simp [frame20, h, decode20, ho.1, ho.2]

/-- One read transfer decoded: a failure, or the frame latched and given. -/
theorem frame24_cases (s : State) :
    ((xfer24 s).2 = none ∧ frame24 s = ((xfer24 s).1, none)) ∨
      ∃ rx, (xfer24 s).2 = some rx ∧
        frame24 s = (latchFrame (decodeFrame24 (rxFrame rx)) (xfer24 s).1, some (decodeFrame24 (rxFrame rx))) := by
  rcases h : xfer24 s with ⟨t, _ | rx⟩
  · exact .inl ⟨rfl, by simp [frame24, h]⟩
  · exact .inr ⟨rx, rfl, by simp [frame24, h, decode24]⟩

/-! ### Argument checks (R201, R211) -/

theorem ratioLegal_iff (ratio : Byte) : ratioLegal ratio = true ↔ ratio.toNat ≤ 7 :=
  ⟨of_decide_eq_true, decide_eq_true⟩

theorem channelLegal_iff (fam : Family) (ch : Byte) : channelLegal fam ch = true ↔ ch.toNat ≤ maxChannel fam :=
  ⟨of_decide_eq_true, decide_eq_true⟩

theorem stopLegal_iff (fam : Family) (stop : Byte) :
    stopLegal fam stop = true ↔ 1 ≤ stop.toNat ∧ stop.toNat ≤ maxChannel fam := by
  rw [stopLegal, Bool.and_eq_true]
  exact and_congr ⟨of_decide_eq_true, decide_eq_true⟩ ⟨of_decide_eq_true, decide_eq_true⟩

theorem countLegal_iff (stop count : Byte) : countLegal stop count = true ↔ count.toNat = stop.toNat + 1 :=
  ⟨of_decide_eq_true, decide_eq_true⟩

/-- The validator passes a frame with no nibble, and one whose nibble is the expected channel (R201). -/
theorem chidOk_iff (chidv : Bool) (chid : BitVec 4) (expected : Byte) :
    chidOk chidv chid expected = true ↔ (chidv = true → chid.toNat = expected.toNat) := by
  have h : (chid.setWidth 8 = expected) ↔ chid.toNat = expected.toNat := by
    constructor
    · rintro rfl
      simp
      omega
    · intro h
      apply BitVec.eq_of_toNat_eq
      simp
      omega
  cases chidv <;> simp [chidOk, h]

/-! ### Commands and primitives -/

/-- A command that answers a next state was accepted, and either its word is Illegal on this block or its body
ran. -/
theorem command_next {legal : Bool} {w : Word} {body : State → State} {s t : State}
    (h : command legal w body s = .next t) :
    s.busy = false ∧
      ((legal = true ∧ t = body (accept w s)) ∨ (legal = false ∧ t = raise .illegalCommand (accept w s))) := by
  unfold command at h
  cases hb : s.busy <;> cases legal <;> simp_all

/-- A command presented between commands always answers a next state (R218). -/
theorem command_idle (legal : Bool) (w : Word) (body : State → State) {s : State} (h : s.busy = false) :
    command legal w body s =
      .next (if legal then body (accept w s) else raise .illegalCommand (accept w s)) := by
  simp [command, h]

/-- While BUSY = 1 no command is accepted (R26). -/
theorem command_busy (legal : Bool) (w : Word) (body : State → State) {s : State} (h : s.busy = true) :
    command legal w body s = .refused .commandWhileBusy := by
  simp [command, h]

/-- A wire-frame row that answers a next state ran on a block of its family. -/
theorem primitive_next {fam : Family} {body : State → State} {s t : State} (h : primitive fam body s = .next t) :
    s.family = fam ∧ t = body s := by
  unfold primitive at h
  split at h
  · exact ⟨by assumption, by simpa using h.symm⟩
  · cases h

/-- A wire-frame row on a block of its family. -/
theorem primitive_own {fam : Family} (body : State → State) {s : State} (h : s.family = fam) :
    primitive fam body s = .next (body s) := by
  simp [primitive, h]

/-! ### The end of an ADC20 sequence (R153) -/

/-- The stop write leaves everything but what every exchange leaves and, where nothing failed before it, PEND. -/
theorem stopWrite20_eq (s : State) :
    stopWrite20 s =
      { (regWrite20 s.cfg.regSeqMode s.cfg.valSeqStop s).1 with
        pend :=
          if (regWrite20 s.cfg.regSeqMode s.cfg.valSeqStop s).2 = none ∧ s.pend = .ok then .ioError
          else s.pend } := by
  have hp : (regWrite20 s.cfg.regSeqMode s.cfg.valSeqStop s).1.pend = s.pend := rfl
  unfold stopWrite20
  rcases h : regWrite20 s.cfg.regSeqMode s.cfg.valSeqStop s with ⟨t, _ | rx⟩
  · rw [h] at hp
    simp only at hp
    by_cases hs : s.pend = .ok <;> simp [hp, hs]
    rw [← hp]
  · rw [h] at hp
    simp only at hp
    simp [← hp]

/-! ### The step -/

/-- What a step does, by what stands at the port. -/
theorem step_cases (s : State) :
    (s.port = [] ∧ step s = .next s) ∨
      (∃ rest, s.port = .reset :: rest ∧ step s = resetRequest (takeRequest s)) ∨
      (∃ c rest i, s.port = .code c :: rest ∧ decodeCode s.cfg s.family c = .ok i ∧
        step s = exec i (takeRequest s)) ∨
      ∃ c rest e, s.port = .code c :: rest ∧ decodeCode s.cfg s.family c = .error e ∧
        step s = undecodable c (takeRequest s) := by
  rcases hp : s.port with _ | ⟨_ | _, rest⟩
  · exact .inl ⟨rfl, by simp [step, hp]⟩
  · rename_i c
    rcases hd : decodeCode s.cfg s.family c with e | i
    · exact .inr (.inr (.inr ⟨c, rest, e, rfl, hd, by simp [step, hp, hd]⟩))
    · exact .inr (.inr (.inl ⟨c, rest, i, rfl, hd, by simp [step, hp, hd]⟩))
  · exact .inr (.inl ⟨rest, rfl, by simp [step, hp]⟩)

end Sys2Proof.Machine
end

