-- ==== Sys2Proof/Laws/PerInstr.lean ====
section
/-! SUPPORT. Facts about every instruction as syntax, one lemma per constructor. -/

namespace Sys2Proof.Laws

/-- The word that `encodeWord` gives an instruction of the table of R84 (or an alias of one, R92) matches its row
there under the row's mask. -/
def RowWord.Statement (i : Instr) : Prop :=
  ∀ n r, Machine.rowIndex i = some n → Machine.opcodeMap[n]? = some r → encodeWord i &&& r.mask = r.matchBits

/-- A row's word, where its fields match field by field. -/
theorem rowWord_of_fields {i : Instr} {k : Nat} {row : Machine.OpcodeRow} (hk : Machine.rowIndex i = some k)
    (hrow : Machine.opcodeMap[k]? = some row) (h : encodeWord i &&& row.mask = row.matchBits) : RowWord.Statement i := by
  intro n r hn hr
  rw [hk] at hn
  cases hn
  rw [hrow] at hr
  cases hr
  exact h

/-- What has no row satisfies the statement. -/
theorem rowWord_of_none {i : Instr} (h : Machine.rowIndex i = none) : RowWord.Statement i := by
  intro n r hn
  rw [h] at hn
  cases hn

theorem RowWord.init20 (chid : Bool) : RowWord.Statement (.init20 chid) := by
  refine rowWord_of_fields (k := 0) rfl rfl ?_
  apply BitVec.eq_of_getLsbD_eq
  intro i hi
  interval_cases i <;> simp [encodeWord, packWord, getElem_place]

theorem RowWord.init24 : RowWord.Statement .init24 := by
  refine rowWord_of_fields (k := 1) rfl rfl ?_
  apply BitVec.eq_of_getLsbD_eq
  intro i hi
  interval_cases i <;> simp [encodeWord, packWord, getElem_place]

theorem RowWord.setavg (ratio : Byte) : RowWord.Statement (.setavg ratio) := by
  refine rowWord_of_fields (k := 2) rfl rfl ?_
  apply BitVec.eq_of_getLsbD_eq
  intro i hi
  interval_cases i <;> simp [encodeWord, packWord, getElem_place]

theorem RowWord.sman20 (ch : Byte) : RowWord.Statement (.sman20 ch) := by
  refine rowWord_of_fields (k := 3) rfl rfl ?_
  apply BitVec.eq_of_getLsbD_eq
  intro i hi
  interval_cases i <;> simp [encodeWord, packWord, getElem_place]

theorem RowWord.sman24 (ch : Byte) : RowWord.Statement (.sman24 ch) := by
  refine rowWord_of_fields (k := 4) rfl rfl ?_
  apply BitVec.eq_of_getLsbD_eq
  intro i hi
  interval_cases i <;> simp [encodeWord, packWord, getElem_place]

theorem RowWord.sseq20 (stop : Byte) (count : Byte) : RowWord.Statement (.sseq20 stop count) := by
  refine rowWord_of_fields (k := 5) rfl rfl ?_
  apply BitVec.eq_of_getLsbD_eq
  intro i hi
  interval_cases i <;> simp [encodeWord, packWord, getElem_place]

theorem RowWord.sseq24 (stop : Byte) (count : Byte) : RowWord.Statement (.sseq24 stop count) := by
  refine rowWord_of_fields (k := 6) rfl rfl ?_
  apply BitVec.eq_of_getLsbD_eq
  intro i hi
  interval_cases i <;> simp [encodeWord, packWord, getElem_place]

theorem RowWord.wreg (addr : Byte) (value : Byte) : RowWord.Statement (.wreg addr value) := by
  refine rowWord_of_fields (k := 7) rfl rfl ?_
  apply BitVec.eq_of_getLsbD_eq
  intro i hi
  interval_cases i <;> simp [encodeWord, packWord, getElem_place]

theorem RowWord.rreg (addr : Byte) : RowWord.Statement (.rreg addr) := by
  refine rowWord_of_fields (k := 8) rfl rfl ?_
  apply BitVec.eq_of_getLsbD_eq
  intro i hi
  interval_cases i <;> simp [encodeWord, packWord, getElem_place]

theorem RowWord.wctl (word12 : BitVec 12) : RowWord.Statement (.wctl word12) := by
  refine rowWord_of_fields (k := 9) rfl rfl ?_
  apply BitVec.eq_of_getLsbD_eq
  intro i hi
  interval_cases i <;> simp [encodeWord, packWord, getElem_place]

theorem RowWord.tomv (res : Resolution) (code16 : Half) : RowWord.Statement (.tomv res code16) := by
  refine rowWord_of_fields (k := 10) rfl rfl ?_
  apply BitVec.eq_of_getLsbD_eq
  intro i hi
  cases res <;>
  interval_cases i <;> simp [encodeWord, packWord, getElem_place, Resolution.bit]

theorem RowWord.chkid (expected : Byte) (nib : BitVec 4) : RowWord.Statement (.chkid expected nib) := by
  refine rowWord_of_fields (k := 11) rfl rfl ?_
  apply BitVec.eq_of_getLsbD_eq
  intro i hi
  interval_cases i <;> simp [encodeWord, packWord, getElem_place]

theorem RowWord.illegalOpc0 (rest : BitVec 28) : RowWord.Statement (.illegalOpc0 rest) := rowWord_of_none rfl

theorem RowWord.illegalOpcA (rest : BitVec 28) : RowWord.Statement (.illegalOpcA rest) := rowWord_of_none rfl

theorem RowWord.illegalOpcB (rest : BitVec 28) : RowWord.Statement (.illegalOpcB rest) := rowWord_of_none rfl

theorem RowWord.illegalOpcC (rest : BitVec 28) : RowWord.Statement (.illegalOpcC rest) := rowWord_of_none rfl

theorem RowWord.illegalOpcD (rest : BitVec 28) : RowWord.Statement (.illegalOpcD rest) := rowWord_of_none rfl

theorem RowWord.illegalOpcE (rest : BitVec 28) : RowWord.Statement (.illegalOpcE rest) := rowWord_of_none rfl

theorem RowWord.illegalOpcF (rest : BitVec 28) : RowWord.Statement (.illegalOpcF rest) := rowWord_of_none rfl

theorem RowWord.readraw (addr : Byte) : RowWord.Statement (.readraw addr) := by
  refine rowWord_of_fields (k := 8) rfl rfl ?_
  apply BitVec.eq_of_getLsbD_eq
  intro i hi
  interval_cases i <;> simp [encodeWord, packWord, getElem_place]

theorem RowWord.modecfgRatio (ratio : Byte) : RowWord.Statement (.modecfgRatio ratio) := by
  refine rowWord_of_fields (k := 2) rfl rfl ?_
  apply BitVec.eq_of_getLsbD_eq
  intro i hi
  interval_cases i <;> simp [encodeWord, packWord, getElem_place]

theorem RowWord.modecfgWord12 (word12 : BitVec 12) : RowWord.Statement (.modecfgWord12 word12) := by
  refine rowWord_of_fields (k := 9) rfl rfl ?_
  apply BitVec.eq_of_getLsbD_eq
  intro i hi
  interval_cases i <;> simp [encodeWord, packWord, getElem_place]

theorem RowWord.sseqStop (stop : Byte) : RowWord.Statement (.sseqStop stop) := by
  refine rowWord_of_fields (k := 5) rfl rfl ?_
  apply BitVec.eq_of_getLsbD_eq
  intro i hi
  interval_cases i <;> simp [encodeWord, packWord, getElem_place]

theorem RowWord.w20 (addr : Byte) (value : Byte) : RowWord.Statement (.w20 addr value) := rowWord_of_none rfl

theorem RowWord.r20a (addr : Byte) : RowWord.Statement (.r20a addr) := rowWord_of_none rfl

theorem RowWord.r20b : RowWord.Statement .r20b := rowWord_of_none rfl

theorem RowWord.f20 : RowWord.Statement .f20 := rowWord_of_none rfl

theorem RowWord.f20Rx12 (code : BitVec 12) (nib : BitVec 4) (ignored : Byte) : RowWord.Statement (.f20Rx12 code nib ignored) := rowWord_of_none rfl

theorem RowWord.f20Rx16 (code : Half) (nib : BitVec 4) (ignored : BitVec 4) : RowWord.Statement (.f20Rx16 code nib ignored) := rowWord_of_none rfl

theorem RowWord.c24 (cw12 : BitVec 12) : RowWord.Statement (.c24 cw12) := rowWord_of_none rfl

theorem RowWord.cw12Manual (ch : BitVec 4) : RowWord.Statement (.cw12Manual ch) := rowWord_of_none rfl

theorem RowWord.cw12Seq (stop : BitVec 4) : RowWord.Statement (.cw12Seq stop) := rowWord_of_none rfl

theorem RowWord.p24 : RowWord.Statement .p24 := rowWord_of_none rfl

theorem RowWord.f24 : RowWord.Statement .f24 := rowWord_of_none rfl

theorem RowWord.f24Rx (ignored : BitVec 4) (code : BitVec 12) : RowWord.Statement (.f24Rx ignored code) := rowWord_of_none rfl

theorem RowWord.mask20 (stop : BitVec 3) : RowWord.Statement (.mask20 stop) := rowWord_of_none rfl

end Sys2Proof.Laws
end

