-- ==== Sys2Proof/Laws/Safety.lean ====
section
/-! SUPPORT. The small lemmas of the terms that statements are made in. -/

namespace Sys2Proof.Machine

/-- Completing a command makes its status the last one. -/
@[simp] theorem lastStatus_finish (e : Status) (r : Word) (n : Byte) (s : State) :
    lastStatus (finish e r n s) = some e := by
  simp [lastStatus, finish]

@[simp] theorem lastStatus_raise (e : Status) (s : State) : lastStatus (raise e s) = some e :=
  lastStatus_finish e 0 s.idx (dropSession e s)

/-- A fatal error leaves INITED = 0, every other status leaves it as it was (R216). -/
theorem raise_inited_eq (e : Status) (s : State) :
    (raise e s).inited = (decide (e ≠ .ioError ∧ e ≠ .protocolDesync) && s.inited) := by
  cases e <;> simp [raise, finish, dropSession]

/-- What only depends on the responses is as the responses are. -/
theorem lastStatus_congr {s t : State} (h : t.responses = s.responses) : lastStatus t = lastStatus s := by
  simp [lastStatus, h]

/-- No events end on no held read. -/
@[simp] theorem endsOnHeldRead_nil : endsOnHeldRead [] = false := rfl

/-- Only the last event counts. -/
@[simp] theorem endsOnHeldRead_append_singleton (es : List Event) (e : Event) :
    endsOnHeldRead (es ++ [e]) = (e.hold && e.rx.isSome) := by
  simp [endsOnHeldRead]

/-- The sample of an ADC20 read (R143, R144). -/
theorem sampledFrom_adc20 {s : State} (h : s.family = .adc20) (k : Nat) (r1 r2 r3 : Byte) :
    sampledFrom s (cycleEvent s.cfg (some [r1, r2, r3])) k
      (sampleOf s.cfg .adc20 (decodeFrame20 s.osr s.chidEn r1 r2 r3) (BitVec.ofNat 8 k)) := by
  simp only [sampledFrom, h]
  exact ⟨r1, r2, r3, rfl, rfl⟩

/-- The sample of an ADC24 read (R173, R176). -/
theorem sampledFrom_adc24 {s : State} (h : s.family = .adc24) (k : Nat) (r1 r2 : Byte) :
    sampledFrom s (transferEvent s.cfg (some [r1, r2])) k
      (sampleOf s.cfg .adc24 (decodeFrame24 (pairFrame r1 r2)) (BitVec.ofNat 8 k)) := by
  simp only [sampledFrom, h]
  exact ⟨r1, r2, rfl, rfl⟩

/-! ### What an echoing chip is known to hold (R125) -/

@[simp] theorem lastWritten_nil (cfg : Cfg) (addr : Byte) : lastWritten cfg addr [] = none := rfl

@[simp] theorem lastWritten_append_singleton (cfg : Cfg) (addr : Byte) (es : List Event) (e : Event) :
    lastWritten cfg addr (es ++ [e]) = knownAfter cfg addr (lastWritten cfg addr es) e := by
  simp [lastWritten]

/-- An answered write makes the byte known, a failed one makes it unknown (R53). -/
@[simp] theorem knownAfter_writeEvent (cfg : Cfg) (addr value : Byte) (rx : Option (List Byte))
    (known : Option Byte) : knownAfter cfg addr known (writeEvent cfg addr value rx) = rx.map fun _ => value := by
  simp [knownAfter, writeEvent]

/-- A write to another register leaves it as it was. -/
theorem knownAfter_writeEvent_other (cfg : Cfg) {addr a : Byte} (h : a ≠ addr) (value : Byte)
    (rx : Option (List Byte)) (known : Option Byte) :
    knownAfter cfg addr known (writeEvent cfg a value rx) = known := by
  simp [knownAfter, writeEvent, h]

end Sys2Proof.Machine
end

