-- ==== Sys2Proof/Tests/Slice0.lean ====
section
/-! SUPPORT. The model's own tests. Expected values are those of spec/95_test_vectors.md (the section is named at each
group), or worked out by hand from the rule named; the last part shows, for every obligation that has hypotheses, a
concrete state and operands that meet them. -/

namespace Sys2Proof.Tests

open Sys2Proof.Machine

/-! ### Small states -/

/-- An ADC20 block after reset whose coming answers are these. -/
def block20 (as : List Answer) : State := { State.reset with answers := as }

/-- An ADC24 block after reset whose coming answers are these. -/
def block24 (as : List Answer) : State := { State.reset with family := .adc24, answers := as }

/-- An ADC20 block in a session (ST = 1, INITED = 1) with channel IDs, as 95 3.5 and 3.8 begin. -/
def session20 (as : List Answer) : State := { block20 as with st := .configured, inited := true, chidEn := true }

/-- An ADC24 block in a session. -/
def session24 (as : List Answer) : State := { block24 as with st := .configured, inited := true }

/-- A block in the middle of a command. -/
def busyBlock : State := { State.reset with busy := true }

/-- With this command word at the port. -/
def offered (s : State) (w : Word) : State := { s with port := [.code (.word w)] }

/-- Three bytes answered. -/
def ok3 (b1 b2 b3 : Byte) : Answer := .ok [b1, b2, b3]

/-- Two bytes answered. -/
def ok2 (b1 b2 : Byte) : Answer := .ok [b1, b2]

/-- Three zero bytes answered. -/
def z3 : Answer := ok3 0 0 0

/-- Two zero bytes answered. -/
def z2 : Answer := ok2 0 0

/-- The next state of an outcome. -/
def nextOf (o : Host.Outcome State Fault Refusal) : Option State :=
  match o with
  | .next t => some t
  | .fault _ => none
  | .refused _ => none

/-- The state after a command word was presented. -/
def ran (s : State) (w : Word) : Option State := nextOf (step (offered s w))

/-- The response as a host reads it, packed (R89). -/
def response (o : Option State) : Option (BitVec 64) := o.bind hostResponse

/-- What was transmitted and held. -/
def sent (o : Option State) : Option (List (List Byte × Bool)) := o.map fun t => t.trace.map fun e => (e.tx, e.hold)

/-- The records of OUT, packed (R90). -/
def delivered (o : Option State) : Option (List (BitVec 64)) := o.map fun t => t.out.map packSample

/-- ST and INITED. -/
def session (o : Option State) : Option (AcqState × Bool) := o.map fun t => (t.st, t.inited)

/-- The instruction that a code decodes to. -/
def decoded (fam : Family) (c : Code) : Option Instr := (decodeCode Cfg.suggested fam c).toOption

/-! ### WellFormed -/

theorem test_wf_refuses_sseqStop_255 : (Instr.sseqStop 255).wf = false := by decide
theorem test_wf_refuses_cw12Seq_0 : (Instr.cw12Seq 0).wf = false := by decide
theorem test_wf_refuses_mask20_0 : (Instr.mask20 0).wf = false := by decide
theorem test_wf_admits_boundaries :
    (Instr.sseqStop 254).wf = true ∧ (Instr.cw12Seq 1).wf = true ∧ (Instr.mask20 7).wf = true := by decide

/-! ### Decoding: words of 95 3.1, frames of 95 3.2 and 3.3 -/

theorem test_decode_init20 : decoded .adc20 (.word 0x10000001) = some (.init20 true) := by decide
theorem test_decode_init24 : decoded .adc24 (.word 0x10000000) = some .init24 := by decide
theorem test_decode_setavg : decoded .adc20 (.word 0x20070000) = some (.setavg 7) := by decide
theorem test_decode_sman20 : decoded .adc20 (.word 0x300F0000) = some (.sman20 15) := by decide
theorem test_decode_sman24 : decoded .adc24 (.word 0x30100000) = some (.sman24 16) := by decide
theorem test_decode_sseq20 : decoded .adc20 (.word 0x40030005) = some (.sseq20 3 5) := by decide
theorem test_decode_sseq24 : decoded .adc24 (.word 0x400F0010) = some (.sseq24 15 16) := by decide
theorem test_decode_wreg : decoded .adc20 (.word 0x500300FF) = some (.wreg 0x03 0xFF) := by decide
theorem test_decode_rreg : decoded .adc20 (.word 0x60FF0000) = some (.rreg 0xFF) := by decide
theorem test_decode_wctl : decoded .adc24 (.word 0x700009B0) = some (.wctl 0x9B0) := by decide
theorem test_decode_tomv : decoded .adc24 (.word 0x80011234) = some (.tomv .bits16 0x1234) := by decide
theorem test_decode_chkid : decoded .adc20 (.word 0x90120002) = some (.chkid 18 2) := by decide
theorem test_decode_illegalOpc0 : decoded .adc20 (.word 0x0050FFFF) = some (.illegalOpc0 0x050FFFF) := by decide
theorem test_decode_illegalOpcA : decoded .adc20 (.word 0xA0000000) = some (.illegalOpcA 0) := by decide
theorem test_decode_illegalOpcB : decoded .adc24 (.word 0xB0000000) = some (.illegalOpcB 0) := by decide
theorem test_decode_illegalOpcC : decoded .adc20 (.word 0xC0000000) = some (.illegalOpcC 0) := by decide
theorem test_decode_illegalOpcD : decoded .adc24 (.word 0xD0000000) = some (.illegalOpcD 0) := by decide
theorem test_decode_illegalOpcE : decoded .adc20 (.word 0xE0000000) = some (.illegalOpcE 0) := by decide
theorem test_decode_illegalOpcF : decoded .adc20 (.word 0xFFFFFFFF) = some (.illegalOpcF 0xFFFFFFF) := by decide
/-- READRAW 0x11 has the word of RREG 0x11 (R92), and that word decodes to RREG. -/
theorem test_encode_readraw :
    encode Cfg.suggested (.readraw 0x11) = .word 0x60110000 ∧
      decoded .adc20 (.word 0x60110000) = some (.rreg 0x11) := by decide
theorem test_encode_modecfgRatio :
    encode Cfg.suggested (.modecfgRatio 3) = .word 0x20030000 ∧
      decoded .adc20 (.word 0x20030000) = some (.setavg 3) := by decide
theorem test_encode_modecfgWord12 :
    encode Cfg.suggested (.modecfgWord12 0x9B0) = .word 0x700009B0 ∧
      decoded .adc24 (.word 0x700009B0) = some (.wctl 0x9B0) := by decide
theorem test_encode_sseqStop :
    encode Cfg.suggested (.sseqStop 3) = .word 0x40030004 ∧
      decoded .adc20 (.word 0x40030004) = some (.sseq20 3 4) ∧
      decoded .adc24 (.word 0x40030004) = some (.sseq24 3 4) := by decide
theorem test_decode_w20 : decoded .adc20 (.wire .w20 0x080302) = some (.w20 0x03 0x02) := by decide
theorem test_decode_r20a : decoded .adc20 (.wire .r20a 0x101100) = some (.r20a 0x11) := by decide
theorem test_decode_r20b : decoded .adc20 (.wire .r20b 0x00) = some .r20b := by decide
theorem test_decode_f20 : decoded .adc20 (.wire .f20 0x000000) = some .f20 := by decide
theorem test_decode_f20Rx12 : decoded .adc20 (.wire .f20Rx12 0x123456) = some (.f20Rx12 0x123 4 0x56) := by decide
theorem test_decode_f20Rx16 : decoded .adc20 (.wire .f20Rx16 0x123456) = some (.f20Rx16 0x1234 5 6) := by decide
theorem test_decode_c24 : decoded .adc24 (.wire .c24 0x9B00) = some (.c24 0x9B0) := by decide
theorem test_decode_cw12Manual : decoded .adc24 (.wire .cw12Manual 0x8F0) = some (.cw12Manual 3) := by decide
theorem test_decode_cw12Seq : decoded .adc24 (.wire .cw12Seq 0xCB8) = some (.cw12Seq 2) := by decide
theorem test_decode_p24 : decoded .adc24 (.wire .p24 0xFFFF) = some .p24 := by decide
theorem test_decode_f24 : decoded .adc24 (.wire .f24 0x0000) = some .f24 := by decide
theorem test_decode_f24Rx : decoded .adc24 (.wire .f24Rx 0x5800) = some (.f24Rx 5 0x800) := by decide
theorem test_decode_mask20 : decoded .adc20 (.wire .mask20 0x0F) = some (.mask20 3) := by decide

/-- The Illegal words of 95 3.1 that are so for RSV, a bit that must be 0, or the family. -/
theorem test_decode_illegal_words :
    decoded .adc20 (.word 0x10000002) = none ∧ decoded .adc20 (.word 0x10010000) = none ∧
    decoded .adc20 (.word 0x11000000) = none ∧ decoded .adc24 (.word 0x10000001) = none ∧
    decoded .adc24 (.word 0x20070000) = none ∧ decoded .adc20 (.word 0x20000001) = none ∧
    decoded .adc20 (.word 0x30050001) = none ∧ decoded .adc20 (.word 0x40030104) = none ∧
    decoded .adc20 (.word 0x50030100) = none ∧ decoded .adc20 (.word 0x60030001) = none ∧
    decoded .adc20 (.word 0x70000000) = none ∧ decoded .adc24 (.word 0x70001000) = none ∧
    decoded .adc24 (.word 0x70010000) = none ∧ decoded .adc20 (.word 0x80020000) = none ∧
    decoded .adc20 (.word 0x88000000) = none ∧ decoded .adc20 (.word 0x90000010) = none := by decide

/-- The table's numbering: 32 bits a command word, fewer a wire frame. -/
theorem test_decodeTableWord :
    decodeTableWord 32 0x10000001 = some (.init20 true) ∧ decodeTableWord 32 0x700009B0 = some (.wctl 0x9B0) ∧
    decodeTableWord 32 0xF1234567 = some (.illegalOpcF 0x1234567) ∧ decodeTableWord 24 0x080302 = some (.w20 3 2) ∧
    decodeTableWord 16 0x9B00 = some (.c24 0x9B0) ∧ decodeTableWord 16 0xFFFF = some .p24 ∧
    decodeTableWord 8 0x0F = some (.mask20 3) := by decide

/-- A word placed where the step fetches runs next: TOMV 0, 0x0111 gives 220; WCTL straps the block to ADC24. -/
theorem test_withFetchWord :
    response (nextOf (step (State.reset.withFetchWord 32 0x80000111))) = some 0x00000000000000DC ∧
    (State.reset.withFetchWord 32 0x700009B0).family = .adc24 ∧
    sent (nextOf (step ((block20 [ok2 0x01 0x23]).withFetchWord 32 0x700009B0))) = some [([0x9B, 0x00], false)] := by
  decide

/-! ### The assembler: R91's syntax, R92 -/

theorem test_assemble_sseq_one_operand :
    assembleLine .adc20 ['S', 'S', 'E', 'Q', ' ', '3', ' ', ';', ' ', 'x'] = some (some 0x40030004) := by decide
theorem test_assemble_negative_code :
    assembleLine .adc24 ['T', 'O', 'M', 'V', ' ', '0', ',', ' ', '-', '2', '0', '4', '8'] = some (some 0x8000F800) := by
  decide
theorem test_assemble_modecfg_by_family :
    assembleLine .adc24 ['M', 'O', 'D', 'E', 'C', 'F', 'G', ' ', '0', 'x', '9', 'B', '0'] = some (some 0x700009B0) ∧
    assembleLine .adc20 ['M', 'O', 'D', 'E', 'C', 'F', 'G', ' ', '3'] = some (some 0x20030000) := by decide
theorem test_assemble_refuses :
    assembleLine .adc20 ['S', 'E', 'T', 'A', 'V', 'G', ' ', '2', '5', '6'] = none ∧
    assembleLine .adc20 ['S', 'S', 'E', 'Q', ' ', '2', '5', '5'] = none ∧
    assembleLine .adc20 [';', 'x'] = some none := by decide

/-! ### ADC20 commands: 95 3.5, 3.8, 3.9 and programs P1 to P6 -/

theorem test_init20_writes_and_sets :
    sent (ran (block20 [z3, z3, z3]) 0x10000001)
      = some [([0x08, 0x02, 0x10], false), ([0x08, 0x05, 0x00], false), ([0x08, 0x04, 0x00], false)] ∧
    (ran (block20 [z3, z3, z3]) 0x10000001).map (fun t => (t.st, t.inited, t.chidEn))
      = some (.configured, true, true) := by decide
theorem test_init20_second_write_fails :
    (ran (block20 [z3, .fail]) 0x10000001).map (fun t => (t.st, t.inited, t.chidEn, t.status, t.trace.length))
      = some (.idle, false, false, .ioError, 2) := by decide
theorem test_setavg_writes_the_ratio :
    sent (ran (session20 [z3]) 0x20030000) = some [([0x08, 0x03, 0x03], false)] ∧
    (ran (session20 [z3]) 0x20030000).map (fun t => (t.osr, t.st)) = some (3, .configured) := by decide
theorem test_setavg_8_is_refused :
    response (ran (session20 []) 0x20080000) = some 0x0000010000000000 ∧
    sent (ran (session20 []) 0x20080000) = some [] := by decide
theorem test_sman20_samples :
    response (ran (session20 [z3, ok3 0xFF 0xFF 0xFF, ok3 0x80 0x05 0x00]) 0x30050000) = some 0x0000000100000672 ∧
    delivered (ran (session20 [z3, ok3 0xFF 0xFF 0xFF, ok3 0x80 0x05 0x00]) 0x30050000)
      = some [0x0016080000000672] := by decide
theorem test_sman20_mismatch :
    response (ran (session20 [z3, z3, ok3 0x80 0x06 0x00]) 0x30050000) = some 0x0000030000000000 ∧
    session (ran (session20 [z3, z3, ok3 0x80 0x06 0x00]) 0x30050000) = some (.idle, false) ∧
    delivered (ran (session20 [z3, z3, ok3 0x80 0x06 0x00]) 0x30050000) = some [] := by decide
/-- P6: the same row in 16-bit mode. -/
theorem test_sseq20_16_bit :
    response (ran { session20 [z3, z3, z3, ok3 0x55 0x55 0x10, z3] with osr := 3 } 0x40010002)
      = some 0x0000000200000000 ∧
    delivered (ran { session20 [z3, z3, z3, ok3 0x55 0x55 0x10, z3] with osr := 3 } 0x40010002)
      = some [0x0003000000000000, 0x004755550000044C] := by decide
theorem test_sseq20_first_error_wins :
    response (ran (session20 [z3, z3, z3, ok3 0x00 0x05 0x00, .fail]) 0x40010002) = some 0x0000030100000000 ∧
    sent (ran (session20 [z3, z3, z3, ok3 0x00 0x05 0x00, .fail]) 0x40010002)
      = some [([0x08, 0x12, 0x03], false), ([0x08, 0x10, 0x11], false), ([0, 0, 0], false), ([0, 0, 0], false),
              ([0x08, 0x10, 0x00], false)] := by decide
theorem test_wreg_sends_its_frame :
    sent (ran (block20 [z3]) 0x50030002) = some [([0x08, 0x03, 0x02], false)] ∧
    (ran (block20 [z3]) 0x50030002).map (fun t => (t.status, t.osr)) = some (.ok, 0) := by decide
theorem test_wreg_wrong_length_answer : response (ran (block20 [z2]) 0x50030002) = some 0x0000020000000000 := by decide
theorem test_rreg_reads_the_second_answer :
    response (ran (block20 [ok3 0xDE 0xAD 0xBE, .ok [0xA5]]) 0x60110000) = some 0x00000000000000A5 ∧
    sent (ran (block20 [ok3 0xDE 0xAD 0xBE, .ok [0xA5]]) 0x60110000)
      = some [([0x10, 0x11, 0x00], true), ([0x00], false)] := by decide
theorem test_rreg_first_exchange_fails :
    sent (ran (session20 [.fail]) 0x60030000) = some [([0x10, 0x03, 0x00], true)] ∧
    session (ran (session20 [.fail]) 0x60030000) = some (.idle, false) := by decide

/-! ### ADC24 commands: 95 3.8, 3.9 and programs P3, P7 -/

theorem test_init24_two_preambles :
    sent (ran (block24 [ok2 0xFF 0xFF, ok2 0xFF 0xFF]) 0x10000000)
      = some [([0xFF, 0xFF], false), ([0xFF, 0xFF], false)] ∧
    session (ran (block24 [ok2 0xFF 0xFF, ok2 0xFF 0xFF]) 0x10000000) = some (.configured, true) := by decide
theorem test_init24_first_fails :
    (ran (session24 [.fail]) 0x10000000).map (fun t => (t.status, t.st, t.trace.length))
      = some (.ioError, .idle, 1) := by decide
theorem test_sman24_negative :
    response (ran (session24 [ok2 0xFF 0xFF, ok2 0x38 0x00]) 0x30030000) = some 0x00000001FFFFFB1E ∧
    sent (ran (session24 [ok2 0xFF 0xFF, ok2 0x38 0x00]) 0x30030000)
      = some [([0x8F, 0x00], false), ([0x00, 0x00], false)] ∧
    delivered (ran (session24 [ok2 0xFF 0xFF, ok2 0x38 0x00]) 0x30030000) = some [0x0000F800FFFFFB1E] := by decide
theorem test_sman24_16_is_refused :
    response (ran (session24 []) 0x30100000) = some 0x0000010000000000 ∧
    session (ran (session24 []) 0x30100000) = some (.configured, true) := by decide
theorem test_sseq24_delivers :
    response (ran (session24 [ok2 0x38 0x00, z2, ok2 0x17 0xFF, ok2 0x2F 0xFF]) 0x40020003)
      = some 0x0000000300000000 ∧
    delivered (ran (session24 [ok2 0x38 0x00, z2, ok2 0x17 0xFF, ok2 0x2F 0xFF]) 0x40020003)
      = some [0x0000000000000000, 0x004007FF000004E1, 0x0080FFFF00000000] := by decide
theorem test_sseq24_fails_at_transfer_1 :
    response (ran (session24 [ok2 0xFF 0xFF, z2, .fail]) 0x40020003) = some 0x0000020100000000 ∧
    sent (ran (session24 [ok2 0xFF 0xFF, z2, .fail]) 0x40020003)
      = some [([0xCB, 0x80], false), ([0, 0], false), ([0, 0], false)] := by decide
theorem test_wctl_returns_the_stale_frame :
    response (ran (block24 [ok2 0x01 0x23]) 0x700009B0) = some 0x0000000000000123 ∧
    sent (ran (block24 [ok2 0x01 0x23]) 0x700009B0) = some [([0x9B, 0x00], false)] := by decide
/-- 95 3.2, the column CW_SHIFT = 0. -/
theorem test_wctl_unshifted :
    sent (ran { block24 [z2] with cfg := { Cfg.suggested with cwShift := .none0 } } 0x700009B0)
      = some [([0x09, 0xB0], false)] := by decide

/-! ### Both families: 95 3.4, 3.5 -/

theorem test_tomv_220 : response (ran (block20 []) 0x80000111) = some 0x00000000000000DC := by decide
theorem test_tomv_negative : response (ran (block24 []) 0x80008000) = some 0x00000000FFFFB1DC := by decide
theorem test_chkid_equal : response (ran (block20 []) 0x90020002) = some 0x0000000000000001 := by decide
theorem test_chkid_above_15 : response (ran (block24 []) 0x90120002) = some 0x0000000000000000 := by decide
/-- 95 P4 and 3.1: the seven reserved opcodes. -/
theorem test_reserved_opcodes :
    ([0x01000000, 0xA0000000, 0xB0000000, 0xC0000000, 0xD0000000, 0xE0000000, 0xF0000000] : List Word).map
      (fun w => response (ran (session20 []) w)) = List.replicate 7 (some 0x0000040000000000) := by decide
theorem test_reserved_opcode_keeps_the_session :
    session (ran (session20 []) 0xFFFFFFFF) = some (.configured, true) := by decide
/-- 95 3.1: IllegalCommand has priority over InvalidArgument (R217). -/
theorem test_illegal_before_invalid : response (ran (block20 []) 0x31FF0000) = some 0x0000040000000000 := by decide

/-! ### Pseudo rows (R92), executed by their own names -/

theorem test_readraw :
    response (nextOf (exec (.readraw 0x11) (block20 [z3, .ok [0xA5]]))) = some 0x00000000000000A5 := by decide
theorem test_modecfgRatio :
    (nextOf (exec (.modecfgRatio 3) (session20 [z3]))).map (fun t => (t.osr, t.opw)) = some (3, 0x20030000) := by decide
theorem test_modecfgWord12 :
    response (nextOf (exec (.modecfgWord12 0x9B0) (block24 [ok2 0x01 0x23]))) = some 0x0000000000000123 := by decide
theorem test_sseqStop :
    response (nextOf (exec (.sseqStop 1) (session20 [z3, z3, z3, ok3 0x55 0x51 0x00, z3]))) = some 0x0000000200000000 ∧
    response (nextOf (exec (.sseqStop 2) (session24 [z2, z2, z2, z2]))) = some 0x0000000300000000 := by decide

/-! ### Wire-frame rows: 95 3.2, 3.3, 3.6 -/

theorem test_w20 : sent (nextOf (exec (.w20 0xFF 0xFF) (block20 [z3]))) = some [([0x08, 0xFF, 0xFF], false)] := by decide
theorem test_r20a : sent (nextOf (exec (.r20a 0x11) (block20 [z3]))) = some [([0x10, 0x11, 0x00], true)] := by decide
theorem test_r20b : (nextOf (exec .r20b (block20 [.ok [0xA5]]))).map (fun t => t.lat.rx) = some [0xA5] := by decide
theorem test_f20 : sent (nextOf (exec .f20 (block20 [z3]))) = some [([0, 0, 0], false)] := by decide
theorem test_f20Rx12 :
    (nextOf (exec (.f20Rx12 0x123 4 0x56) (session20 []))).map (fun t => (t.lat.fr.raw, t.lat.fr.chid))
      = some (0x0123, 4) := by decide
theorem test_f20Rx16 :
    (nextOf (exec (.f20Rx16 0x1234 5 6) { session20 [] with osr := 7 })).map (fun t => (t.lat.fr.raw, t.lat.fr.chid))
      = some (0x1234, 5) := by decide
theorem test_c24 : sent (nextOf (exec (.c24 0xFFF) (block24 [z2]))) = some [([0xFF, 0xF0], false)] := by decide
theorem test_cw12Manual : (nextOf (exec (.cw12Manual 15) (block24 []))).map (fun t => t.lat.cw) = some 0xBF0 := by decide
theorem test_cw12Seq : (nextOf (exec (.cw12Seq 15) (block24 []))).map (fun t => t.lat.cw) = some 0xFF8 := by decide
theorem test_p24 : sent (nextOf (exec .p24 (block24 [z2]))) = some [([0xFF, 0xFF], false)] := by decide
theorem test_f24 : sent (nextOf (exec .f24 (block24 [z2]))) = some [([0, 0], false)] := by decide
theorem test_f24Rx :
    (nextOf (exec (.f24Rx 5 0x800) (block24 []))).map (fun t => t.lat.fr.raw) = some 0xF800 := by decide
theorem test_mask20 :
    [1, 2, 3, 4, 5, 6, 7].map seqMask = [0x03, 0x07, 0x0F, 0x1F, 0x3F, 0x7F, 0xFF] ∧
    (nextOf (exec (.mask20 7) (block20 []))).map (fun t => t.lat.mask) = some 0xFF := by decide

/-! ### Frames, packings, the converter: 95 3.3, 3.4, 3.7 -/

theorem test_decodeFrame20 :
    (decodeFrame20 1 true 0xAB 0xCD 0xEF).chid = 14 ∧ (decodeFrame20 1 true 0xAB 0xCD 0xEF).raw = 0xABCD ∧
    (decodeFrame20 0 true 0xAB 0xCD 0xEF).chid = 13 ∧ (decodeFrame20 0 true 0xAB 0xCD 0xEF).raw = 0x0ABC ∧
    (decodeFrame20 1 false 0xAB 0xCD 0xEF).chid = 0 := by decide
theorem test_decodeFrame24 :
    (decodeFrame24 0xF7FF).raw = 0x07FF ∧ (decodeFrame24 0x5800).raw = 0xF800 := by decide
theorem test_packResponse : packResponse (statusCode .protocolDesync) 0 2 = 0x0000030200000000 := by decide
theorem test_toMv :
    toMv 4094 .bits12 3300 = 3299 ∧ toMv 32767 .bits16 3300 = 1649 ∧ toMv (-1) .bits12 2500 = 0 ∧
    toMv (-2047) .bits12 2500 = -1249 := by decide

/-! ### Reset, and what a busy block refuses -/

/-- P9's reset: the registers go, the trace stays. -/
theorem test_reset_in_mid_session :
    (nextOf (step { session20 [] with
        port := [.reset], osr := 3
        trace := [{ tx := [8, 3, 3], hold := false, rx := some [0, 0, 0] }] })).map
      (fun t => (t.st, t.inited, t.osr, t.chidEn, t.trace.length)) = some (.idle, false, 0, false, 1) := by decide
theorem test_busy_refuses_command : step (offered busyBlock 0x80000000) = .refused .commandWhileBusy := by rfl
theorem test_busy_refuses_reset :
    step { busyBlock with port := [.reset] } = .refused .resetWhileBusy := by rfl
theorem test_wire_bits_that_do_not_fit :
    step { block20 [] with port := [.code (.wire .w20 0x090302)] } = .refused .frameDoesNotFit := by rfl
theorem test_hostRead : hostRead .ST (session20 []) = some 1 ∧ hostRead .RESULT busyBlock = none := by decide
/-- R210's codes as the host reads them. -/
theorem test_hostRead_status_codes :
    [Status.ok, .invalidArgument, .ioError, .protocolDesync, .illegalCommand].map
      (fun e => hostRead .STATUS { block20 [] with status := e }) = [some 0, some 1, some 2, some 3, some 4] := by decide

/-! ### States and operands that meet the hypotheses of the obligations, `meets_<Obligation>` each -/

/-- The status of a next state. -/
def statusOf (o : Option State) : Option Status := o.map fun t => t.status

theorem test_meets_DecodeInvertsEncode :
    Cfg.suggested.ok = true ∧ (Instr.cw12Seq 15).wf = true ∧ (Instr.cw12Seq 15).onFamily .adc24 = true ∧
      (Instr.cw12Seq 15).kind ≠ .pseudo := by decide
theorem test_meets_EncodeInvertsDecode : decoded .adc20 (.wire .mask20 0xFF) = some (.mask20 7) := by decide
theorem test_meets_WordSelectsItsOpcodeRow :
    decoded .adc24 (.word 0x80010000) = some (.tomv .bits16 0) ∧ (Instr.tomv .bits16 0).kind = .command ∧
      (opcodeMap[10]?).map (fun r => r.selects .adc24 0x80010000) = some true := by decide
theorem test_meets_AliasesHaveTheirCoreWords : (255 : Byte).toNat = (254 : Byte).toNat + 1 := by decide
theorem test_meets_StepRunsTheDecodedInstruction :
    (offered (block20 []) 0x80000111).port = [.code (.word 0x80000111)] ∧
      decoded .adc20 (.word 0x80000111) = some (.tomv .bits12 0x0111) := by decide
theorem test_meets_IllegalWordCompletesIllegalCommand :
    (offered (block20 []) 0x88000000).busy = false ∧ decoded .adc20 (.word 0x88000000) = none ∧
      decoded .adc20 (.word 0x01000000) = some (.illegalOpc0 0x1000000) ∧
      (Instr.illegalOpc0 0x1000000).kind = .reserved := by decide
theorem test_meets_ResetGivesTheResetValues :
    ({ session20 [] with port := [.reset] } : State).busy = false ∧
      ({ session20 [] with port := [.reset] } : State).port = [.reset] := by decide
theorem test_meets_BusyBlockTakesNothing :
    (offered busyBlock 0).busy = true ∧ ({ busyBlock with port := [.reset] } : State).busy = true := by decide
theorem test_meets_StepKeepsTheInvariant :
    inv (offered (session20 [z3, z3, ok3 0x80 0x05 0x00]) 0x30050000) ∧
      statusOf (ran (session20 [z3, z3, ok3 0x80 0x05 0x00]) 0x30050000) = some .ok := by decide
theorem test_meets_StrapsNeverChange : (ran (session24 []) 0x80000000).isSome = true := by decide
theorem test_meets_NoErrorStopsTheBlock :
    (offered (session20 [.fail]) 0x50030002).busy = false ∧
      (offered (session20 [.fail]) 0x50030002).port = [.code (.word 0x50030002)] := by decide
theorem test_meets_EveryCommandRespondsOnce :
    (Instr.sseq24 15 16).kind ≠ .wireFrame ∧ (session24 [.fail]).busy = false ∧
      statusOf (nextOf (exec (.sseq24 15 16) (session24 [.fail]))) = some .ioError := by decide
/-- The second: an error after one record, which stays in the last-sample registers. -/
theorem test_meets_FatalErrorsEndTheSession_with_record :
    (nextOf (exec (.sseq20 1 2) (session20 [z3, z3, ok3 0x55 0x50 0x00, .fail, z3]))).map
      (fun t => (t.status, t.raw, t.mv, (newRecords (session20 []) t).length)) = some (.ioError, 0x0555, 1100, 1) := by
  decide
theorem test_meets_FatalErrorsEndTheSession :
    statusOf (nextOf (exec (.wreg 3 2) (session20 [.fail]))) = some .ioError ∧
      statusOf (nextOf (exec (.sman20 5) (session20 [z3, z3, ok3 0x80 0x06 0x00]))) = some .protocolDesync := by decide
theorem test_meets_InvalidArgumentExactlyOutOfRange :
    (Instr.sman24 16).onFamily (session24 []).family = true ∧ outOfRange (session24 []).family (.sman24 16) ∧
      statusOf (nextOf (exec (.sman24 16) (session24 []))) = some .invalidArgument ∧
      ¬ outOfRange (session24 []).family (.sman24 15) := by simp [outOfRange]; decide
theorem test_meets_CachesHaveOneWriter :
    (nextOf (exec (.setavg 7) (session20 [z3]))).map (fun t => t.osr) = some 7 ∧ (session20 [z3]).osr = 0 ∧
      (nextOf (exec (.init20 false) (session20 [z3, z3, z3]))).map (fun t => t.chidEn) = some false ∧
      (session20 []).chidEn = true := by decide
theorem test_meets_AcquisitionStateFollowsTheTable :
    statusOf (nextOf (exec (.sman24 0) (session24 [z2, z2]))) = some .ok ∧
      statusOf (nextOf (exec (.sman24 0) (session24 [z2, .fail]))) = some .ioError ∧
      statusOf (nextOf (exec (.sman20 0) (session20 [z3, z3, ok3 0 1 0]))) = some .protocolDesync ∧
      statusOf (nextOf (exec (.sman20 8) (session20 []))) = some .invalidArgument ∧
      statusOf (nextOf (exec (.illegalOpcA 0) (session20 []))) = some .illegalCommand := by decide
theorem test_meets_OnlyListedShapesAreIssued :
    (nextOf (exec (.rreg 3) (block20 [z3, .ok [2]]))).map (fun t => (newEvents (block20 []) t).length) = some 2 := by
  decide
theorem test_meets_HeldReadsAreChained :
    (Instr.rreg 3).kind ≠ .wireFrame ∧
      (nextOf (exec (.rreg 3) (block20 [z3, .ok [2]]))).map
        (fun t => (newEvents (block20 []) t).map fun e => e.hold) = some [true, false] := by decide
theorem test_meets_ExchangeCountsPerCommand :
    (Instr.sman20 7).kind = .command ∧
      statusOf (nextOf (exec (.sman20 7) (block20 [z3, z3, z3]))) = some .ok := by decide
theorem test_meets_NsampCountsTheRecords :
    (nextOf (exec (.sseq20 1 2) (session20 [z3, z3, z3, ok3 0 1 0, z3]))).map
      (fun t => (newRecords (session20 []) t).length) = some 2 := by decide
/-- Record 1 of an ADC24 sequence is exchange 2, its second read transfer (P3, step 3). -/
theorem test_meets_RecordsStandInFrameOrder_adc24 :
    (nextOf (exec (.sseq24 1 2) (session24 [ok2 0x38 0x00, z2, ok2 0x17 0xFF]))).map
      (fun t => ((newEvents (session24 []) t)[firstSampleRead .adc24 (.sseq24 1 2) + 1]?,
        (newRecords (session24 []) t)[1]?))
      = some (some (transferEvent Cfg.suggested (some [0x17, 0xFF])),
          some (sampleOf Cfg.suggested .adc24 (decodeFrame24 0x17FF) 1)) := by decide
theorem test_meets_RecordsStandInFrameOrder :
    (nextOf (exec (.sseq20 1 2) (session20 [z3, z3, z3, ok3 0 1 0, z3]))).map
        (fun t => (newRecords (session20 []) t).map fun r => (r.seqIdx, r.chidv)) = some [(0, true), (1, true)] ∧
      (nextOf (exec (.wreg 3 2) (session20 [z3]))).map (fun t => newRecords (session20 []) t) = some [] := by decide

/-! #### Register protocols -/

theorem test_meets_WregIssuesOneWrite :
    gets (block20 [z3]) [writeEvent Cfg.suggested 3 2 (some [0, 0, 0])] = true ∧
      gets (block20 [.fail]) [writeEvent Cfg.suggested 3 2 none] = true := by decide
theorem test_meets_RregReadsTheSecondByte :
    gets (block20 [z3, .ok [0xA5]])
        [readFirstEvent Cfg.suggested 3 (some [0, 0, 0]), readSecondEvent Cfg.suggested (some [0xA5])] = true ∧
      gets (block20 [z3, .fail])
        [readFirstEvent Cfg.suggested 3 (some [0, 0, 0]), readSecondEvent Cfg.suggested none] = true ∧
      gets (block20 [.fail]) [readFirstEvent Cfg.suggested 3 none] = true := by decide
theorem test_meets_WctlSendsTheShiftedWord :
    (0x9B : Byte).toNat * 256 + (0x00 : Byte).toNat = (0x9B0 : BitVec 12).toNat * 16 ∧
      gets (block24 [ok2 1 0x23]) [{ tx := [0x9B, 0x00], hold := false, rx := some [1, 0x23] }] = true ∧
      gets (block24 [.fail]) [{ tx := [0x9B, 0x00], hold := false, rx := none }] = true := by decide

/-- The same with CW_SHIFT = 0. -/
theorem test_meets_WctlSendsTheShiftedWord_unshifted :
    (0x09 : Byte).toNat * 256 + (0xB0 : Byte).toNat = (0x9B0 : BitVec 12).toNat * 1 ∧
      gets { block24 [z2] with cfg := { Cfg.suggested with cwShift := .none0 } }
        [{ tx := [0x09, 0xB0], hold := false, rx := some [0, 0] }] = true := by decide

/-- P2: the block that has written 2 to register 3 of an echoing chip, which answers 2. -/
def echoing : State := block20 [z3, z3, .ok [2]]

/-- The trace of P2. -/
def echoTrace : List Event :=
  [writeEvent Cfg.suggested 3 2 (some [0, 0, 0]), readFirstEvent Cfg.suggested 3 (some [0, 0, 0]),
   readSecondEvent Cfg.suggested (some [2])]

theorem echoes_echoTrace : Echoes Cfg.suggested echoTrace := by
  intro pre post addr v e1 e2 h htx _ _ htx2 _ hlast rx hrx
  rcases pre with _ | ⟨p, _ | ⟨q, _ | ⟨r, pre⟩⟩⟩
  · simp only [echoTrace, List.nil_append, List.cons.injEq] at h
    obtain ⟨rfl, rfl, -⟩ := h
    simp [readFirstEvent] at htx2
  · simp only [echoTrace, List.cons_append, List.nil_append, List.cons.injEq] at h
    obtain ⟨rfl, rfl, rfl, -⟩ := h
    simp only [readFirstEvent, List.cons.injEq] at htx
    obtain ⟨-, rfl, -⟩ := htx
    have hv : lastWritten Cfg.suggested 3 [writeEvent Cfg.suggested 3 2 (some [0, 0, 0])] = some 2 := by decide
    rw [hv] at hlast
    cases hlast
    simpa [readSecondEvent] using hrx.symm
  · simp [echoTrace] at h
  · simp [echoTrace] at h

/-- R53: after a failed write the register's byte is not known, and an answered write makes it so again. -/
theorem test_lastWritten_after_failure :
    lastWritten Cfg.suggested 3
        [writeEvent Cfg.suggested 3 2 (some [0, 0, 0]), writeEvent Cfg.suggested 3 7 none] = none ∧
      lastWritten Cfg.suggested 3
        [writeEvent Cfg.suggested 3 7 none, writeEvent Cfg.suggested 3 2 (some [0, 0, 0]),
          writeEvent Cfg.suggested 4 9 none] = some 2 := by decide

theorem test_meets_WrittenRegisterReadsBack :
    ∃ t u, exec (.wreg 3 2) echoing = .next t ∧ t.status = .ok ∧ exec (.rreg 3) t = .next u ∧ u.status = .ok ∧
      Echoes echoing.cfg u.trace :=
  ⟨_, _, rfl, rfl, rfl, rfl, echoes_echoTrace⟩

/-! #### INIT, SETAVG, SMAN -/

theorem test_meets_Init20WritesThreeRegisters :
    let w1 := writeEvent Cfg.suggested 0x02 0x10
    let w2 := writeEvent Cfg.suggested 0x05 0x00
    let w3 := writeEvent Cfg.suggested 0x04 0x00
    gets (block20 [z3, z3, z3]) [w1 (some [0, 0, 0]), w2 (some [0, 0, 0]), w3 (some [0, 0, 0])] = true ∧
      gets (block20 [.fail]) [w1 none] = true ∧ gets (block20 [z3, .fail]) [w1 (some [0, 0, 0]), w2 none] = true ∧
      gets (block20 [z3, z3, .fail]) [w1 (some [0, 0, 0]), w2 (some [0, 0, 0]), w3 none] = true := by decide
theorem test_meets_Init24SendsTwoPreambleFrames :
    gets (block24 [z2, z2]) [preambleEvent (some [0, 0]), preambleEvent (some [0, 0])] = true ∧
      gets (block24 [.fail]) [preambleEvent none] = true ∧
      gets (block24 [z2, .fail]) [preambleEvent (some [0, 0]), preambleEvent none] = true := by decide
theorem test_meets_SetavgWritesTheRatio :
    (7 : Byte).toNat ≤ 7 ∧ gets (block20 [z3]) [writeEvent Cfg.suggested 0x03 7 (some [0, 0, 0])] = true ∧
      gets (block20 [.fail]) [writeEvent Cfg.suggested 0x03 7 none] = true ∧ 7 < (8 : Byte).toNat := by decide
theorem test_meets_Sman20SamplesOneChannel :
    let e1 := writeEvent Cfg.suggested 0x11 7
    let e2 := cycleEvent Cfg.suggested
    let z : Option (List Byte) := some [0, 0, 0]
    7 < (8 : Byte).toNat ∧ (7 : Byte).toNat ≤ 7 ∧
      gets (session20 [z3, z3, ok3 0 7 0]) [e1 z, e2 z, e2 (some [0, 7, 0])] = true ∧
      gets (session20 [z3, z3, ok3 0 6 0]) [e1 z, e2 z, e2 (some [0, 6, 0])] = true ∧
      (decodeFrame20 0 true 0 6 0).chid.toNat ≠ 7 ∧
      gets (session20 [.fail]) [e1 none] = true ∧ gets (session20 [z3, .fail]) [e1 z, e2 none] = true ∧
      gets (session20 [z3, z3, .fail]) [e1 z, e2 z, e2 none] = true := by decide
theorem test_meets_Sman24SamplesOneChannel :
    let e1 := controlEvent Cfg.suggested 0xBF0
    let e2 := transferEvent Cfg.suggested
    15 < (16 : Byte).toNat ∧ (15 : Byte).toNat ≤ 15 ∧
      Cfg.suggested.baseManual ||| BitVec.ofNat 12 ((15 : Byte).toNat * 64) = 0xBF0 ∧
      gets (block24 [z2, ok2 0xF1 0x23]) [e1 (some [0, 0]), e2 (some [0xF1, 0x23])] = true ∧
      gets (block24 [.fail]) [e1 none] = true ∧ gets (block24 [z2, .fail]) [e1 (some [0, 0]), e2 none] = true := by
  decide
theorem test_meets_DummyReadBytesAreIgnored :
    (nextOf (exec (.sman20 5) { session20 [] with answers := [z3, .ok [0xFF, 0xFF, 0xFF], ok3 0x80 0x05 0] })).isSome
        = true ∧
      (nextOf (exec (.sman20 5) { session20 [] with answers := [z3, .ok [0, 0, 0], ok3 0x80 0x05 0] })).isSome
        = true := by decide
theorem test_meets_StaleFrameIsDiscarded :
    (nextOf (exec (.sman24 3) { session24 [] with answers := [.ok [0xFF, 0xFF], ok2 0x38 0] })).isSome = true ∧
      (nextOf (exec (.sman24 3) { session24 [] with answers := [.ok [0, 0], ok2 0x38 0] })).isSome = true := by decide

/-- P3's SMAN 3: the control word, then the transfer that carries channel 3's frame. -/
def pipelineTrace : List Event :=
  [controlEvent Cfg.suggested 0x8F0 (some [0xFF, 0xFF]), transferEvent Cfg.suggested (some [0x38, 0x00])]

theorem follows_pipelineTrace : FollowsControlWord Cfg.suggested (fun _ _ => 0x3800) pipelineTrace := by
  intro n e1 e2 cw h1 h2 _ _ rx hrx
  rcases n with _ | n
  · simp only [pipelineTrace, Nat.zero_add, List.getElem?_cons_succ, List.getElem?_cons_zero, Option.some.injEq] at h2
    subst h2
    simp only [transferEvent, Option.some.injEq] at hrx
    rw [← hrx]
    show [0x38, 0x00] = frameBytes 0x3800
    decide
  · simp [pipelineTrace] at h2

theorem test_meets_PipelinedSampleIsOfItsChannel :
    ∃ t, exec (.sman24 3) (block24 [ok2 0xFF 0xFF, ok2 0x38 0x00]) = .next t ∧ t.status = .ok ∧
      FollowsControlWord (block24 []).cfg (fun _ _ => 0x3800) t.trace :=
  ⟨_, rfl, rfl, follows_pipelineTrace⟩

/-! #### SSEQ -/

/-- The frames of P1's sequence, channels 0 and 1. -/
def goodFrames : List (Byte × Byte × Byte) := [(0x00, 0x00, 0x00), (0x55, 0x51, 0x00)]

/-- The mask and start writes of SSEQ 1, 2, answered. -/
def started : List Event :=
  [writeEvent Cfg.suggested 0x12 (seqMask 1) (some [0, 0, 0]), writeEvent Cfg.suggested 0x10 0x11 (some [0, 0, 0])]

/-- The stop write. -/
def stopped (rx : Option (List Byte)) : List Event := [writeEvent Cfg.suggested 0x10 0x00 rx]

/-- Read cycles that answered these frames. -/
def cycles (fs : List (Byte × Byte × Byte)) : List Event :=
  fs.map fun f => cycleEvent Cfg.suggested (some [f.1, f.2.1, f.2.2])

theorem test_meets_Sseq20DeliversEveryFrame :
    let s := session20 [z3, z3, z3, ok3 0x55 0x51 0, z3]
    1 ≤ (1 : Byte).toNat ∧ (2 : Byte).toNat = (1 : Byte).toNat + 1 ∧ goodFrames.length = (1 : Byte).toNat + 1 ∧
      idsMatch s goodFrames = true ∧ gets s (started ++ cycles goodFrames ++ stopped (some [0, 0, 0])) = true := by decide
/-- The greatest sequence, with no channel IDs. -/
theorem test_meets_Sseq20DeliversEveryFrame_7 :
    let s := block20 (List.replicate 11 z3)
    (7 : Byte).toNat ≤ 7 ∧ (8 : Byte).toNat = (7 : Byte).toNat + 1 ∧ idsMatch s (List.replicate 8 (0, 0, 0)) = true ∧
      gets s
        (writeEvent Cfg.suggested 0x12 (seqMask 7) (some [0, 0, 0]) ::
          writeEvent Cfg.suggested 0x10 0x11 (some [0, 0, 0]) ::
          (cycles (List.replicate 8 (0, 0, 0)) ++ stopped (some [0, 0, 0]))) = true := by decide
theorem test_meets_Sseq20FailsBeforeItsFrames :
    gets (session20 [.fail]) [writeEvent Cfg.suggested 0x12 (seqMask 1) none] = true ∧
      gets (session20 [z3, .fail, z3])
        [writeEvent Cfg.suggested 0x12 (seqMask 1) (some [0, 0, 0]), writeEvent Cfg.suggested 0x10 0x11 none,
          writeEvent Cfg.suggested 0x10 0x00 (some [0, 0, 0])] = true := by decide
theorem test_meets_Sseq20AbortsAtABadFrame :
    let s := session20 [z3, z3, z3, ok3 0x00 0x05 0x00, .fail]
    let u := session20 [z3, z3, .fail, z3]
    ([(0, 0, 0)] : List (Byte × Byte × Byte)).length ≤ (1 : Byte).toNat ∧ idsMatch s [(0, 0, 0)] = true ∧
      s.chidEn = true ∧ (decodeFrame20 s.osr s.chidEn 0x00 0x05 0x00).chid.toNat ≠ 1 ∧
      gets s (started ++ cycles [(0, 0, 0)] ++ [cycleEvent Cfg.suggested (some [0x00, 0x05, 0x00])] ++ stopped none)
        = true ∧
      gets u (started ++ [cycleEvent Cfg.suggested none] ++ stopped (some [0, 0, 0])) = true := by decide
theorem test_meets_Sseq20FailsAtTheStopWrite :
    let s := session20 [z3, z3, z3, ok3 0x55 0x51 0, .fail]
    idsMatch s goodFrames = true ∧ gets s (started ++ cycles goodFrames ++ stopped none) = true := by decide
theorem test_meets_EveryStartHasItsStop :
    Cfg.suggested.ok = true ∧ Cfg.suggested.valSeqStart ≠ Cfg.suggested.valSeqStop ∧
      Cfg.suggested.dummy ≠ Cfg.suggested.writeCmd ∧
      (nextOf (exec (.sseq20 1 2) (session20 [z3, z3, .fail, z3]))).isSome = true := by decide
theorem test_meets_Sseq24DeliversEveryFrame :
    let s := block24 [z2, z2, ok2 0x17 0xFF]
    Cfg.suggested.baseSeq ||| BitVec.ofNat 12 ((1 : Byte).toNat * 64) = 0xC78 ∧
      gets s [controlEvent Cfg.suggested 0xC78 (some [0, 0]), transferEvent Cfg.suggested (some [0, 0]),
        transferEvent Cfg.suggested (some [0x17, 0xFF])] = true := by decide
/-- P8: the greatest sequence. -/
theorem test_meets_Sseq24DeliversEveryFrame_15 :
    (15 : Byte).toNat ≤ 15 ∧ (16 : Byte).toNat = (15 : Byte).toNat + 1 ∧
      gets (block24 (List.replicate 17 z2))
        (controlEvent Cfg.suggested 0xFF8 (some [0, 0]) ::
          List.replicate 16 (transferEvent Cfg.suggested (some [0, 0]))) = true := by decide
theorem test_meets_Sseq24AbortsAtAFailure :
    gets (block24 [.fail]) [controlEvent Cfg.suggested 0xCB8 none] = true ∧
      Cfg.suggested.baseSeq ||| BitVec.ofNat 12 ((2 : Byte).toNat * 64) = 0xCB8 ∧
      ([(0, 0), (0, 0)] : List (Byte × Byte)).length ≤ (2 : Byte).toNat ∧
      gets (block24 [z2, z2, z2, .fail])
        [controlEvent Cfg.suggested 0xCB8 (some [0, 0]), transferEvent Cfg.suggested (some [0, 0]),
          transferEvent Cfg.suggested (some [0, 0]), transferEvent Cfg.suggested none] = true := by decide

/-! #### Pure commands, the other family, wire rows, frames, the converter -/

theorem test_meets_TomvConvertsItsCode : (session20 []).busy = false := by decide
theorem test_meets_ChkidCompares : (session24 []).busy = false := by decide
theorem test_meets_ReservedOpcodesAreIllegal : (session20 []).busy = false := by decide
theorem test_meets_RowsOfTheOtherFamilyAreIllegal :
    (Instr.wctl 0x830).kind ≠ .wireFrame ∧ (Instr.wctl 0x830).onFamily (block20 []).family = false ∧
      (block20 []).busy = false := by decide
theorem test_meets_TransmitRowsIssueTheirFrame :
    gets (block20 [z3]) [writeEvent Cfg.suggested 3 2 (some [0, 0, 0])] = true ∧
      gets (block20 [z3]) [readFirstEvent Cfg.suggested 3 (some [0, 0, 0])] = true ∧
      gets (block20 [.ok [2]]) [readSecondEvent Cfg.suggested (some [2])] = true ∧
      gets (block20 [.fail]) [cycleEvent Cfg.suggested none] = true ∧
      gets (block24 [z2]) [controlEvent Cfg.suggested 0xFFF (some [0, 0])] = true ∧
      gets (block24 [z2]) [preambleEvent (some [0, 0])] = true ∧
      gets (block24 [.fail]) [transferEvent Cfg.suggested none] = true := by decide
theorem test_meets_ReceiveRowsDecodeTheirFrame :
    (block20 []).osr = 0#3 ∧ ({ block20 [] with osr := 7 } : State).osr ≠ 0#3 ∧ (block24 []).family = .adc24 := by
  decide
theorem test_meets_ControlWordRowsPlaceTheChannel : (block24 []).family = .adc24 := by decide
theorem test_meets_MaskRowSetsTheChannelsUpToStop : (block20 []).family = .adc20 ∧ (7 : BitVec 3) ≠ 0#3 := by decide
theorem test_meets_WireRowsOfTheOtherFamilyStop :
    (Instr.p24).kind = .wireFrame ∧ (Instr.p24).onFamily (block20 []).family = false := by decide
theorem test_meets_Frame20FollowsItsLayout :
    (0 : BitVec 3) = 0#3 ∧ (decodeFrame20 0 true 0x12 0x34 0x56).chid.toNat = 4 ∧ (7 : BitVec 3) ≠ 0#3 ∧
      (decodeFrame20 7 true 0x12 0x34 0x56).chid.toNat = 5 := by decide
/-- The clauses meet at v = 0, where both give 0. -/
theorem test_meets_ConverterTruncatesTowardZero :
    (0 : Int) ≤ 32767 ∧ (-32768 : Int) ≤ 0 ∧ (0 : Int) ≤ 0 ∧ toMv 0 .bits12 2500 = 0 ∧ toMv 0 .bits16 3300 = 0 := by
  decide
theorem test_meets_PackedWordsHoldTheirFields : (session20 []).busy = false := by decide
theorem test_meets_ConverterIsMonotonicAndOdd : (-32768 : Int) ≤ 65535 := by decide
theorem test_meets_MillivoltsFitTheirRegister : Cfg.suggested.ok = true := by decide

end Sys2Proof.Tests
end

/-! PROOFS for spec/00_scope.md: the straps (R8, R19, R38). The pair of FAMILY and the parameters is followed through
the shared operations, the bodies of the commands, `exec`, and the step. -/

namespace Sys2Proof.Machine

/-- What stays fixed for the whole life of a block (R19): FAMILY and, by the model's choice (log 4), the parameters. -/
def straps (s : State) : Family × Cfg := (s.family, s.cfg)

theorem straps_eq_iff {s t : State} : straps t = straps s ↔ t.family = s.family ∧ t.cfg = s.cfg :=
  Prod.mk_inj

/-! ### The shared operations -/

@[simp] theorem straps_accept (w : Word) (s : State) : straps (accept w s) = straps s := rfl

@[simp] theorem straps_finish (e : Status) (r : Word) (n : Byte) (s : State) :
    straps (finish e r n s) = straps s := rfl

@[simp] theorem straps_raise (e : Status) (s : State) : straps (raise e s) = straps s :=
  straps_eq_iff.2 ⟨raise_family e s, raise_cfg e s⟩

@[simp] theorem straps_xchg (tx : List Byte) (hold : Bool) (s : State) : straps (xchg tx hold s).1 = straps s := rfl

@[simp] theorem straps_latchFrame (fr : Frame) (s : State) : straps (latchFrame fr s) = straps s := rfl

@[simp] theorem straps_latchRx (rx : List Byte) (s : State) : straps (latchRx rx s) = straps s := rfl

@[simp] theorem straps_latchCw (cw : BitVec 12) (s : State) : straps (latchCw cw s) = straps s := rfl

@[simp] theorem straps_latchMask (m : Byte) (s : State) : straps (latchMask m s) = straps s := rfl

@[simp] theorem straps_decode24 (rx : List Byte) (s : State) : straps (decode24 rx s).1 = straps s := rfl

@[simp] theorem straps_receive20 (v : BitVec 24) (s : State) : straps (receive20 v s) = straps s := rfl

@[simp] theorem straps_takeRequest (s : State) : straps (takeRequest s) = straps s := rfl

@[simp] theorem straps_blockReset (s : State) : straps (blockReset s) = straps s := rfl

/-- Going on after an exchange keeps the straps where the exchange and the rest do: IoError keeps them. -/
theorem straps_orIoError {α : Type} {r : State × Option α} {k : State → α → State} {s : State}
    (hr : straps r.1 = straps s) (hk : ∀ t a, straps (k t a) = straps t) : straps (orIoError r k) = straps s :=
  orIoError_keeps (P := fun t => straps t = straps s) ((straps_raise ..).trans hr) fun a _ => (hk r.1 a).trans hr

@[simp] theorem straps_exchangeOnly (r : State × Option (List Byte)) : straps (exchangeOnly r) = straps r.1 :=
  straps_orIoError rfl fun _ _ => rfl

@[simp] theorem straps_frame20 (s : State) : straps (frame20 s).1 = straps s := by
  obtain ⟨-, h⟩ | ⟨rx, -, h⟩ := frame20_cases s
  · rw [h]
    exact straps_xchg ..
  · rw [h]
    exact (straps_latchFrame ..).trans (straps_xchg ..)

@[simp] theorem straps_frame24 (s : State) : straps (frame24 s).1 = straps s := by
  obtain ⟨-, h⟩ | ⟨rx, -, h⟩ := frame24_cases s
  · rw [h]
    exact straps_xchg ..
  · rw [h]
    exact (straps_latchFrame ..).trans (straps_xchg ..)

/-! ### The bodies of the register commands and of the commands of both families -/

theorem straps_bodyWreg (addr value : Byte) (s : State) : straps (bodyWreg addr value s) = straps s :=
  straps_orIoError (straps_xchg ..) fun _ _ => straps_finish ..

theorem straps_bodyRreg (addr : Byte) (s : State) : straps (bodyRreg addr s) = straps s :=
  straps_orIoError (straps_xchg ..) fun _ _ =>
  straps_orIoError (straps_xchg ..) fun _ _ => straps_finish ..

theorem straps_bodyWctl (word12 : BitVec 12) (s : State) : straps (bodyWctl word12 s) = straps s :=
  straps_orIoError (straps_xchg ..) fun _ _ => straps_finish ..

theorem straps_bodyTomv (res : Resolution) (code16 : Half) (s : State) : straps (bodyTomv res code16 s) = straps s :=
  straps_finish ..

theorem straps_bodyChkid (expected : Byte) (nib : BitVec 4) (s : State) :
    straps (bodyChkid expected nib s) = straps s :=
  straps_finish ..

/-! ### The bodies of the ADC20 acquisition -/

theorem straps_bodyInit20 (chid : Bool) (s : State) : straps (bodyInit20 chid s) = straps s :=
  straps_orIoError (straps_xchg ..) fun _ _ =>
  straps_orIoError (straps_xchg ..) fun _ _ =>
  straps_orIoError (straps_xchg ..) fun _ _ => straps_finish ..

theorem straps_bodySetavg (ratio : Byte) (s : State) : straps (bodySetavg ratio s) = straps s := by
  unfold bodySetavg
  split
  · exact straps_orIoError (straps_xchg ..) fun _ _ => straps_finish ..
  · exact straps_raise ..

theorem straps_bodySman20 (ch : Byte) (s : State) : straps (bodySman20 ch s) = straps s := by
  unfold bodySman20
  split
  · refine straps_orIoError (straps_xchg ..) fun _ _ => straps_orIoError (straps_xchg ..) fun _ _ =>
      straps_orIoError (straps_frame20 _) fun _ fr => ?_
    split
    · exact straps_finish ..
    · exact straps_raise ..
  · exact straps_raise ..

theorem straps_readLoop20 (n : Nat) (i : Byte) (s : State) : straps (readLoop20 n i s) = straps s := by
  induction n generalizing i s with
  | zero => rfl
  | succ n ih =>
    have hframe := straps_frame20 s
    rcases h : frame20 s with ⟨t, _ | fr⟩ <;> rw [h] at hframe <;> simp only [readLoop20, h]
    case none => exact hframe
    case some =>
      split
      · exact (ih ..).trans hframe
      · exact hframe

theorem straps_startAndRead20 (count : Byte) (s : State) : straps (startAndRead20 count s) = straps s := by
  have hstart : straps (regWrite20 s.cfg.regSeqMode s.cfg.valSeqStart s).1 = straps s := straps_xchg ..
  unfold startAndRead20
  split <;> rename_i h <;> rw [h] at hstart
  · exact hstart
  · exact (straps_readLoop20 ..).trans hstart

theorem straps_stopWrite20 (s : State) : straps (stopWrite20 s) = straps s := by
  rw [stopWrite20_eq]
  rfl

theorem straps_endSequence20 (count : Byte) (s : State) : straps (endSequence20 count s) = straps s := by
  unfold endSequence20
  split
  · exact straps_finish ..
  · exact straps_raise ..

theorem straps_bodySseq20 (stop count : Byte) (s : State) : straps (bodySseq20 stop count s) = straps s := by
  unfold bodySseq20
  split
  · split
    · refine straps_orIoError (straps_xchg ..) fun t _ => ?_
      calc straps (endSequence20 count (stopWrite20 (startAndRead20 count t)))
          _ = straps (stopWrite20 (startAndRead20 count t)) := straps_endSequence20 ..
          _ = straps (startAndRead20 count t) := straps_stopWrite20 _
          _ = straps t := straps_startAndRead20 ..
    · exact straps_raise ..
  · exact straps_raise ..

/-! ### The bodies of the ADC24 acquisition -/

theorem straps_bodyInit24 (s : State) : straps (bodyInit24 s) = straps s :=
  straps_orIoError (straps_xchg ..) fun _ _ =>
  straps_orIoError (straps_xchg ..) fun _ _ => straps_finish ..

theorem straps_bodySman24 (ch : Byte) (s : State) : straps (bodySman24 ch s) = straps s := by
  unfold bodySman24
  split
  · exact straps_orIoError (straps_xchg ..) fun _ _ =>
      straps_orIoError (straps_frame24 _) fun _ _ => straps_finish ..
  · exact straps_raise ..

theorem straps_readLoop24 (n : Nat) (i : Byte) (s : State) : straps (readLoop24 n i s).1 = straps s := by
  induction n generalizing i s with
  | zero => rfl
  | succ n ih =>
    have hframe := straps_frame24 s
    rcases h : frame24 s with ⟨t, _ | fr⟩ <;> rw [h] at hframe <;> simp only [readLoop24, h]
    case none => exact hframe
    case some => exact (ih ..).trans hframe

theorem straps_bodySseq24 (stop count : Byte) (s : State) : straps (bodySseq24 stop count s) = straps s := by
  unfold bodySseq24
  split
  · split
    · exact straps_orIoError (straps_xchg ..) fun _ _ =>
        straps_orIoError (straps_readLoop24 ..) fun _ _ => straps_finish ..
    · exact straps_raise ..
  · exact straps_raise ..

theorem straps_bodySseqStop (stop : Byte) (s : State) : straps (bodySseqStop stop s) = straps s := by
  unfold bodySseqStop
  split
  · exact straps_bodySseq20 ..
  · exact straps_bodySseq24 ..

/-! ### Commands, wire-frame rows, reset, and the dispatch -/

/-- A command keeps the straps where its body does: acceptance and IllegalCommand keep them. -/
theorem straps_command {legal : Bool} {w : Word} {body : State → State} {s t : State}
    (hbody : ∀ s, straps (body s) = straps s) (h : command legal w body s = .next t) : straps t = straps s := by
  obtain ⟨-, ⟨-, rfl⟩ | ⟨-, rfl⟩⟩ := command_next h
  · exact (hbody _).trans (straps_accept w s)
  · exact (straps_raise ..).trans (straps_accept w s)

theorem straps_illegalWord {w : Word} {s t : State} (h : illegalWord w s = .next t) : straps t = straps s :=
  straps_command (fun _ => rfl) h

theorem straps_primitive {fam : Family} {body : State → State} {s t : State}
    (hbody : ∀ s, straps (body s) = straps s) (h : primitive fam body s = .next t) : straps t = straps s := by
  obtain ⟨-, rfl⟩ := primitive_next h
  exact hbody s

theorem straps_resetRequest {s t : State} (h : resetRequest s = .next t) : straps t = straps s := by
  unfold resetRequest at h
  split at h
  · cases h
  · cases h
    exact straps_blockReset s

theorem straps_undecodable {c : Code} {s t : State} (h : undecodable c s = .next t) : straps t = straps s := by
  cases c with
  | word w => exact straps_illegalWord h
  | wire sh v => cases h

/-- No instruction changes FAMILY or the parameters (R8, R19). -/
theorem straps_exec {i : Instr} {s t : State} (h : exec i s = .next t) : straps t = straps s := by
  cases i with
  | init20 chid => exact straps_command (straps_bodyInit20 chid) h
  | init24 => exact straps_command straps_bodyInit24 h
  | setavg ratio | modecfgRatio ratio => exact straps_command (straps_bodySetavg ratio) h
  | sman20 ch => exact straps_command (straps_bodySman20 ch) h
  | sman24 ch => exact straps_command (straps_bodySman24 ch) h
  | sseq20 stop count => exact straps_command (straps_bodySseq20 stop count) h
  | sseq24 stop count => exact straps_command (straps_bodySseq24 stop count) h
  | sseqStop stop => exact straps_command (straps_bodySseqStop stop) h
  | wreg addr value => exact straps_command (straps_bodyWreg addr value) h
  | rreg addr | readraw addr => exact straps_command (straps_bodyRreg addr) h
  | wctl word12 | modecfgWord12 word12 => exact straps_command (straps_bodyWctl word12) h
  | tomv res code16 => exact straps_command (straps_bodyTomv res code16) h
  | chkid expected nib => exact straps_command (straps_bodyChkid expected nib) h
  | illegalOpc0 rest | illegalOpcA rest | illegalOpcB rest | illegalOpcC rest | illegalOpcD rest
  | illegalOpcE rest | illegalOpcF rest => exact straps_illegalWord h
  | w20 _ _ | r20a _ | r20b | f20 | c24 _ | p24 | f24 =>
    exact straps_primitive (fun _ => (straps_exchangeOnly _).trans (straps_xchg ..)) h
  | f20Rx12 _ _ _ | f20Rx16 _ _ _ => exact straps_primitive (straps_receive20 _) h
  | f24Rx ignored code => exact straps_primitive (fun _ => (straps_decode24 ..).trans (straps_latchRx ..)) h
  | cw12Manual _ | cw12Seq _ => exact straps_primitive (fun _ => straps_latchCw ..) h
  | mask20 stop => exact straps_primitive (straps_latchMask _) h

/-! ### The step -/

theorem straps_step {s t : State} (h : step s = .next t) : straps t = straps s := by
  obtain ⟨-, hs⟩ | ⟨_, -, hs⟩ | ⟨_, _, _, -, -, hs⟩ | ⟨_, _, _, -, -, hs⟩ := step_cases s <;> rw [hs] at h
  case inl => cases h; rfl
  case inr.inl => exact (straps_resetRequest h).trans (straps_takeRequest s)
  case inr.inr.inl => exact (straps_exec h).trans (straps_takeRequest s)
  case inr.inr.inr => exact (straps_undecodable h).trans (straps_takeRequest s)

/-- Settles O14: every step keeps the straps, whatever stands at the port. -/
theorem strapsNeverChange : Obligations.StrapsNeverChange := by
  unfold Obligations.StrapsNeverChange
  exact fun _ _ h => straps_eq_iff.1 (straps_step h)

end Sys2Proof.Machine

/-! PROOFS for spec/10_state.md: the block's registers, the invariant of R41, the caches, the acquisition state and the
sample records. A row of the command table is acceptance and a body; a body in progress is described by `Progress` (the
exchanges issued and the records delivered so far), its end by `Ending`; the statements are read off those two. -/

namespace Sys2Proof.Machine

/-! ### A command is acceptance and the body of its row -/

/-- Does a block of this family run the row (R84, R85)? A reserved opcode is run by none. -/
def rowLegal (i : Instr) (fam : Family) : Bool := decide (i.kind ≠ .reserved) && i.onFamily fam

/-- What a command row does once accepted; nothing where no block accepts the row as a command. -/
def commandBody : Instr → State → State
  | .init20 chid => bodyInit20 chid
  | .init24 => bodyInit24
  | .setavg ratio | .modecfgRatio ratio => bodySetavg ratio
  | .sman20 ch => bodySman20 ch
  | .sman24 ch => bodySman24 ch
  | .sseq20 stop count => bodySseq20 stop count
  | .sseq24 stop count => bodySseq24 stop count
  | .sseqStop stop => bodySseqStop stop
  | .wreg addr value => bodyWreg addr value
  | .rreg addr | .readraw addr => bodyRreg addr
  | .wctl word12 | .modecfgWord12 word12 => bodyWctl word12
  | .tomv res code16 => bodyTomv res code16
  | .chkid expected nib => bodyChkid expected nib
  | .illegalOpc0 _ | .illegalOpcA _ | .illegalOpcB _ | .illegalOpcC _ | .illegalOpcD _ | .illegalOpcE _
  | .illegalOpcF _
  | .w20 _ _ | .r20a _ | .r20b | .f20 | .f20Rx12 _ _ _ | .f20Rx16 _ _ _ | .c24 _ | .cw12Manual _
  | .cw12Seq _ | .p24 | .f24 | .f24Rx _ _ | .mask20 _ => id

/-- Every row but the wire frames is run as a command. -/
theorem exec_eq_command {i : Instr} (hk : i.kind ≠ .wireFrame) (s : State) :
    exec i s = command (rowLegal i s.family) (encodeWord i) (commandBody i) s := by
  cases i with
  | w20 _ _ | r20a _ | r20b | f20 | f20Rx12 _ _ _ | f20Rx16 _ _ _ | c24 _ | cw12Manual _ | cw12Seq _ | p24 | f24
  | f24Rx _ _ | mask20 _ => exact absurd rfl hk
  | _ => rfl

/-! ### Command words decode to commands -/

theorem ofFamily_eq_ok {need fam : Family} {r : Except Reject Instr} {i : Instr} (h : ofFamily need fam r = .ok i) :
    need = fam ∧ r = .ok i := by
  unfold ofFamily at h
  split at h
  · exact ⟨by assumption, h⟩
  · cases h

theorem ifZero_eq_ok {zero : Bool} {i j : Instr} (h : ifZero zero i = .ok j) : zero = true ∧ j = i := by
  unfold ifZero at h
  split at h
  · cases h
    exact ⟨by assumption, rfl⟩
  · cases h

theorem decodeInit_kind {fam : Family} {a : Byte} {b : Half} {i : Instr} (h : decodeInit fam a b = .ok i) :
    i.kind = .command := by
  cases fam <;> obtain ⟨-, rfl⟩ := ifZero_eq_ok h <;> rfl

theorem decodeCommand_kind {fam : Family} {opc : Nat} {a : Byte} {b : Half} {i : Instr}
    (h : decodeCommand fam opc a b = .ok i) : i.kind = .command := by
  unfold decodeCommand at h
  split at h
  case h_1 => exact decodeInit_kind h
  case h_2 | h_5 | h_6 | h_7 =>
    obtain ⟨-, rfl⟩ := ifZero_eq_ok (ofFamily_eq_ok h).2
    rfl
  case h_3 | h_4 =>
    obtain ⟨-, rfl⟩ := ifZero_eq_ok h
    cases fam <;> rfl
  case h_8 | h_9 =>
    obtain ⟨-, rfl⟩ := ifZero_eq_ok h
    rfl

/-- No command word decodes to a wire-frame row (R84). -/
theorem decodeWord_kind_ne_wireFrame {fam : Family} {w : Word} {i : Instr} (h : decodeWord fam w = .ok i) :
    i.kind ≠ .wireFrame := by
  unfold decodeWord at h
  split at h
  case h_8 =>
    split at h
    · simp [decodeCommand_kind h]
    · cases h
  all_goals
    cases h
    simp [Instr.kind]

/-- Settles O11: a command word, whether it decodes or not, goes through `command`, which takes nothing while BUSY = 1,
and a reset through `resetRequest`. -/
theorem busyBlockTakesNothing : Obligations.BusyBlockTakesNothing := by
  unfold Obligations.BusyBlockTakesNothing
  intro s rest hbusy
  have hbusy' : (takeRequest s).busy = true := hbusy
  refine ⟨fun hp => by simp [step, hp, resetRequest, hbusy], fun w hp => ?_⟩
  rcases hd : decodeWord s.family w with e | i <;> simp only [step, hp, decodeCode, hd]
  case error => exact command_busy _ _ _ hbusy'
  case ok => rw [exec_eq_command (decodeWord_kind_ne_wireFrame hd), command_busy _ _ _ hbusy']

/-! ### The records of a block are samples of its family (R25, R41) -/

/-- Code 0 is 0 mV (R190). -/
theorem millivolts_zero (cfg : Cfg) (fam : Family) : millivolts cfg fam 0 .bits12 = 0 := by
  simp [millivolts, toMv, codeValue, tdiv, fullScale]

/-- The last-sample registers after reset are a sample of either family. -/
theorem recordOk_zero (cfg : Cfg) (fam : Family) (idx : Byte) :
    recordOk cfg fam { seqIdx := idx, raw := 0, res := .bits12, chidv := false, chid := 0, mv := 0 } :=
  ⟨fun _ _ => (by decide : 0#16 ≤ 0x0FFF#16), fun _ => ⟨rfl, .inl (by decide : 0#16 ≤ 0x07FF#16), rfl⟩, fun _ => rfl,
    (millivolts_zero cfg fam).symm⟩

/-- In 12-bit mode the code is what is left of 16 bits without their low four (R143). -/
theorem decodeFrame20_range (osr : BitVec 3) (chidEn : Bool) (r1 r2 r3 : Byte)
    (h : (decodeFrame20 osr chidEn r1 r2 r3).res = .bits12) :
    (decodeFrame20 osr chidEn r1 r2 r3).raw ≤ 0x0FFF#16 := by
  unfold decodeFrame20 at h ⊢
  by_cases hosr : osr = 0#3
  · simp only [hosr, if_true, BitVec.le_def, BitVec.toNat_ushiftRight, BitVec.toNat_ofNat, Nat.shiftRight_eq_div_pow]
    have := (pairFrame r1 r2).isLt
    omega
  · simp [hosr] at h

theorem decodeFrame20_chidv (osr : BitVec 3) (chidEn : Bool) (r1 r2 r3 : Byte) :
    (decodeFrame20 osr chidEn r1 r2 r3).chidv = chidEn := by
  unfold decodeFrame20
  split <;> rfl

/-- A frame without an ID carries no nibble (R143). -/
theorem decodeFrame20_chid_eq_zero (osr : BitVec 3) (chidEn : Bool) (r1 r2 r3 : Byte)
    (h : (decodeFrame20 osr chidEn r1 r2 r3).chidv = false) : (decodeFrame20 osr chidEn r1 r2 r3).chid = 0#4 := by
  rw [decodeFrame20_chidv] at h
  subst h
  unfold decodeFrame20
  split <;> rfl

/-- A sign-extended 12-bit code keeps to the two ends of the 16-bit range (R174). -/
theorem signExt24_range (code : BitVec 12) : signExt24 code ≤ 0x07FF#16 ∨ 0xF800#16 ≤ signExt24 code := by
  have hlt := code.isLt
  have hsign : code.getLsbD 11 = decide (2048 ≤ code.toNat) := BitVec.msb_eq_decide code
  unfold signExt24
  split <;> rename_i hbit <;> rw [hsign, decide_eq_true_eq] at hbit
  · have hdisjoint : code.setWidth 16 &&& 0xF000#16 = 0#16 := by
      apply BitVec.eq_of_getLsbD_eq
      intro i hi
      interval_cases i <;> simp
    right
    rw [← BitVec.add_eq_or_of_and_eq_zero _ _ hdisjoint]
    simp only [BitVec.le_def, BitVec.toNat_add, BitVec.toNat_setWidth, BitVec.toNat_ofNat]
    omega
  · left
    simp only [BitVec.le_def, BitVec.toNat_setWidth, BitVec.toNat_ofNat]
    omega

/-- What is sampled from a read is a sample of the block's family at its stream index, and carries a channel ID only
where CHID_EN is set (R25, R33). -/
theorem sampledFrom_sound {s : State} {e : Event} {k : Nat} {r : Sample} (h : sampledFrom s e k r) :
    r.seqIdx = BitVec.ofNat 8 k ∧ recordOk s.cfg s.family r ∧ (r.chidv = true → s.chidEn = true) := by
  cases hf : s.family <;> simp only [sampledFrom, hf] at h
  case adc20 =>
    obtain ⟨r1, r2, r3, -, rfl⟩ := h
    exact ⟨rfl, ⟨fun _ => decodeFrame20_range s.osr s.chidEn r1 r2 r3, nofun,
      decodeFrame20_chid_eq_zero s.osr s.chidEn r1 r2 r3, rfl⟩,
      (decodeFrame20_chidv s.osr s.chidEn r1 r2 r3).symm.trans⟩
  case adc24 =>
    obtain ⟨r1, r2, -, rfl⟩ := h
    exact ⟨rfl, ⟨nofun, fun _ => ⟨rfl, signExt24_range _, rfl⟩, fun _ => rfl, rfl⟩, nofun⟩

/-- Settles O13: the last-sample registers hold code 0 and 0 mV, and OUT is empty. -/
theorem resetMeetsTheInvariant : Obligations.ResetMeetsTheInvariant := by
  unfold Obligations.ResetMeetsTheInvariant
  have hreset : ∀ (fam : Family) (cfg : Cfg), inv { State.reset with family := fam, cfg := cfg } := fun fam cfg =>
    ⟨rfl, nofun, recordOk_zero cfg fam 0, nofun, fun _ => ⟨rfl, rfl⟩, nofun⟩
  exact ⟨hreset .adc20 Cfg.suggested, hreset⟩

/-! ### A body in progress: the exchanges issued and the records delivered so far -/

/-- What a command's body never changes: the straps, the word it runs, the requests yet to come. -/
def fixedPart (s : State) : (Family × Cfg) × Word × List Request := (straps s, s.opw, s.port)

/-- OSR and CHID_EN, which no error changes (R212). -/
def caches (s : State) : BitVec 3 × Bool := (s.osr, s.chidEn)

/-- ST, INITED and the two caches (R29 to R32). -/
def session (s : State) : AcqState × Bool × BitVec 3 × Bool := (s.st, s.inited, caches s)

/-- From `s` the block came to `u` by issuing the exchanges `evs` and delivering the records `rs`, where exchange
number `first` is the first sample-producing read. -/
structure Progress (first : Nat) (s : State) (evs : List Event) (rs : List Sample) (u : State) : Prop where
  fixed : fixedPart u = fixedPart s
  trace : u.trace = s.trace ++ evs
  out : u.out = s.out ++ rs
  idx : u.idx = s.idx + BitVec.ofNat 8 rs.length
  sampled : ∀ k r, rs[k]? = some r → ∃ e, evs[first + k]? = some e ∧ sampledFrom s e k r
  last : lastSample u = (rs.getLast?.map fun r => { r with seqIdx := 0 }).getD (lastSample s)

section Progress
variable {first : Nat} {s u v : State} {evs : List Event} {rs : List Sample}

theorem fixedPart_eq_iff :
    fixedPart u = fixedPart s ↔ (u.family = s.family ∧ u.cfg = s.cfg) ∧ u.opw = s.opw ∧ u.port = s.port := by
  simp [fixedPart, straps_eq_iff]

theorem session_eq_iff : session u = session s ↔
    u.st = s.st ∧ u.inited = s.inited ∧ u.osr = s.osr ∧ u.chidEn = s.chidEn := by
  simp [session, caches]

theorem caches_of_session {st : AcqState} {inited : Bool} {c : BitVec 3 × Bool} (h : session u = (st, inited, c)) :
    caches u = c :=
  congrArg (·.2.2) h

/-- Nothing has been done yet. -/
theorem Progress.start (first : Nat) (s : State) : Progress first s [] [] s where
  fixed := rfl
  trace := (List.append_nil _).symm
  out := (List.append_nil _).symm
  idx := (BitVec.add_zero _).symm
  sampled := nofun
  last := rfl

/-- Progress says nothing of the other registers: ST, INITED, the caches, the result, the sequencer, the latches. -/
theorem Progress.congr (h : Progress first s evs rs u) (hfixed : fixedPart v = fixedPart u := by rfl)
    (htrace : v.trace = u.trace := by rfl) (hout : v.out = u.out := by rfl) (hidx : v.idx = u.idx := by rfl)
    (hlast : lastSample v = lastSample u := by rfl) : Progress first s evs rs v where
  fixed := hfixed.trans h.fixed
  trace := htrace.trans h.trace
  out := hout.trans h.out
  idx := hidx.trans h.idx
  sampled := h.sampled
  last := hlast.trans h.last

theorem Progress.family_eq (h : Progress first s evs rs u) : u.family = s.family :=
  (fixedPart_eq_iff.1 h.fixed).1.1

theorem Progress.cfg_eq (h : Progress first s evs rs u) : u.cfg = s.cfg :=
  (fixedPart_eq_iff.1 h.fixed).1.2

/-- The reads already issued stand where they stood when one more exchange is issued. -/
theorem Progress.after_xchg (h : Progress first s evs rs u) (tx : List Byte) (hold : Bool) :
    Progress first s (evs ++ [{ tx := tx, hold := hold, rx := (xchg tx hold u).2 }]) rs (xchg tx hold u).1 where
  fixed := h.fixed
  trace := by simp [h.trace]
  out := h.out
  idx := h.idx
  sampled k r hr := by
    obtain ⟨e, he, hs⟩ := h.sampled k r hr
    exact ⟨e, List.getElem?_append_left (List.getElem?_eq_some_iff.1 he).1 ▸ he, hs⟩
  last := h.last

/-- The sample of the read just issued is delivered: it is the next record in frame order. -/
theorem Progress.after_emit {e : Event} {r : Sample} (h : Progress first s (evs ++ [e]) rs u)
    (hlen : evs.length = first + rs.length) (hr : sampledFrom s e rs.length r) :
    Progress first s (evs ++ [e]) (rs ++ [r]) (emit r u) where
  fixed := h.fixed
  trace := h.trace
  out := by simp [h.out]
  idx := by simp [h.idx, BitVec.add_assoc, BitVec.ofNat_add]
  sampled k q hq := by
    rcases Nat.lt_trichotomy k rs.length with hk | rfl | hk
    · exact h.sampled k q (List.getElem?_append_left hk ▸ hq)
    · rw [List.getElem?_concat_length] at hq
      cases hq
      exact ⟨e, by rw [← hlen, List.getElem?_concat_length], hr⟩
    · rw [List.getElem?_eq_none (by simp only [List.length_append, List.length_singleton]; omega)] at hq
      cases hq
  last := by simp [lastSample]

/-- Every record of OUT and the last-sample registers stay samples of the family. -/
theorem Progress.records_ok (h : Progress first s evs rs u) (hlast : recordOk s.cfg s.family (lastSample s))
    (hout : ∀ r ∈ s.out, recordOk s.cfg s.family r) :
    recordOk u.cfg u.family (lastSample u) ∧ ∀ r ∈ u.out, recordOk u.cfg u.family r := by
  have hnew : ∀ r ∈ rs, recordOk s.cfg s.family r := fun r hr => by
    obtain ⟨k, hk⟩ := List.getElem?_of_mem hr
    obtain ⟨e, -, hs⟩ := h.sampled k r hk
    exact (sampledFrom_sound hs).2.1
  rw [h.family_eq, h.cfg_eq, h.last, h.out]
  constructor
  · cases hl : rs.getLast? with
    | none => exact hlast
    | some r => exact hnew r (List.mem_of_getLast? hl)
  · exact fun r hr => (List.mem_append.1 hr).elim (hout r) (hnew r)

end Progress

/-! ### How a command ends -/

/-- OSR and CHID_EN after a command that completed OK (R31, R32): each has one row that writes it. -/
def cachesAfterOk (s : State) : Instr → BitVec 3 × Bool
  | .setavg ratio | .modecfgRatio ratio => (ratio.extractLsb' 0 3, s.chidEn)
  | .init20 chid => (s.osr, chid)
  | _ => caches s

/-- ST, INITED and the caches after a command that completed OK (R40, R31, R32). -/
def sessionAfterOk (s : State) (i : Instr) : AcqState × Bool × BitVec 3 × Bool :=
  (stAfterOk s.st i, initedAfterOk s.inited i, cachesAfterOk s i)

/-- The body of a row the block has, past its argument checks: it came from `s` to `u` and has not completed yet. -/
structure Runs (i : Instr) (s : State) (evs : List Event) (rs : List Sample) (u : State) : Prop
    extends Progress (firstSampleRead s.family i) s evs rs u where
  legal : rowLegal i s.family = true
  inRange : ¬ outOfRange s.family i
  few : rs.length ≤ maxRecords i
  responses : u.responses = s.responses

/-- What can become of a command accepted in `s`: it is rejected at once; or its exchanges ended in an error that ends
the session (R216); or it completed OK, with NSAMP the records delivered (R24). -/
inductive Ending (i : Instr) (s : State) : State → Prop
  | rejected {e : Status} (he : e = .invalidArgument ∨ e = .illegalCommand) : Ending i s (raise e s)
  | failed {evs : List Event} {rs : List Sample} {u : State} {e : Status} (h : Runs i s evs rs u)
      (hcaches : caches u = caches s) (he : e = .ioError ∨ e = .protocolDesync) : Ending i s (raise e u)
  | finished {evs : List Event} {rs : List Sample} {u : State} (result : Word) (h : Runs i s evs rs u)
      (hsession : session u = sessionAfterOk s i) : Ending i s (finish .ok result (BitVec.ofNat 8 rs.length) u)

section Bodies
variable {i j : Instr} {s t u v : State} {evs : List Event} {rs : List Sample}

theorem Runs.start (hlegal : rowLegal i s.family = true) (hrange : ¬ outOfRange s.family i) : Runs i s [] [] s where
  toProgress := .start _ s
  legal := hlegal
  inRange := hrange
  few := Nat.zero_le _
  responses := rfl

theorem Runs.congr (h : Runs i s evs rs u) (hfixed : fixedPart v = fixedPart u := by rfl)
    (htrace : v.trace = u.trace := by rfl) (hout : v.out = u.out := by rfl) (hidx : v.idx = u.idx := by rfl)
    (hlast : lastSample v = lastSample u := by rfl) (hresponses : v.responses = u.responses := by rfl) :
    Runs i s evs rs v where
  toProgress := h.toProgress.congr hfixed htrace hout hidx hlast
  legal := h.legal
  inRange := h.inRange
  few := h.few
  responses := hresponses.trans h.responses

theorem Runs.after_xchg (h : Runs i s evs rs u) (tx : List Byte) (hold : Bool) :
    Runs i s (evs ++ [{ tx := tx, hold := hold, rx := (xchg tx hold u).2 }]) rs (xchg tx hold u).1 where
  toProgress := h.toProgress.after_xchg tx hold
  legal := h.legal
  inRange := h.inRange
  few := h.few
  responses := h.responses

theorem Runs.after_emit {e : Event} {r : Sample} (h : Runs i s (evs ++ [e]) rs u)
    (hlen : evs.length = firstSampleRead s.family i + rs.length) (hr : sampledFrom s e rs.length r)
    (hroom : rs.length < maxRecords i) : Runs i s (evs ++ [e]) (rs ++ [r]) (emit r u) where
  toProgress := h.toProgress.after_emit hlen hr
  legal := h.legal
  inRange := h.inRange
  few := by simpa using hroom
  responses := h.responses

/-- A command that goes on only after an answered exchange ends with IoError, or as its rest does from the state that
the exchange leaves. -/
theorem Ending.of_xchg {tx : List Byte} {hold : Bool} {k : State → List Byte → State} (h : Runs i s evs rs u)
    (hcaches : caches u = caches s)
    (hk : ∀ v e rx, Runs i s (evs ++ [e]) rs v → session v = session u → Ending i s (k v rx)) :
    Ending i s (orIoError (xchg tx hold u) k) :=
  orIoError_keeps (P := Ending i s) (.failed (h.after_xchg tx hold) hcaches (.inl rfl))
    fun rx _ => hk _ _ rx (h.after_xchg tx hold) rfl

/-- Two rows with the same first read and the same effect on the session end alike. -/
theorem Ending.transfer (h : Ending i s t) (hlegal : rowLegal j s.family = true)
    (hrange : ¬ outOfRange s.family i → ¬ outOfRange s.family j) (hmax : maxRecords i ≤ maxRecords j)
    (hfirst : firstSampleRead s.family i = firstSampleRead s.family j)
    (hsame : sessionAfterOk s i = sessionAfterOk s j) : Ending j s t := by
  have hruns : ∀ {evs rs u}, Runs i s evs rs u → Runs j s evs rs u := fun h =>
    { toProgress := hfirst ▸ h.toProgress, legal := hlegal, inRange := hrange h.inRange,
      few := h.few.trans hmax, responses := h.responses }
  cases h with
  | rejected he => exact .rejected he
  | failed h hcaches he => exact .failed (hruns h) hcaches he
  | finished result h hsession => exact .finished result (hruns h) (hsession.trans hsame)

/-! ### Commands that sample nothing -/

theorem ending_bodyWreg {addr value : Byte} (hlegal : rowLegal (.wreg addr value) s.family = true) :
    Ending (.wreg addr value) s (bodyWreg addr value s) :=
  .of_xchg (.start hlegal nofun) rfl fun _ _ _ h hs => .finished 0 h hs

theorem ending_bodyRreg {addr : Byte} (hlegal : rowLegal (.rreg addr) s.family = true) :
    Ending (.rreg addr) s (bodyRreg addr s) :=
  .of_xchg (.start hlegal nofun) rfl fun _ _ _ h hs =>
  .of_xchg h (caches_of_session hs) fun _ _ _ h hs' => .finished _ h (hs'.trans hs)

theorem ending_bodyWctl {word12 : BitVec 12} (hlegal : rowLegal (.wctl word12) s.family = true) :
    Ending (.wctl word12) s (bodyWctl word12 s) :=
  .of_xchg (.start hlegal nofun) rfl fun _ _ _ h hs => .finished _ h hs

theorem ending_bodyTomv {res : Resolution} {code16 : Half} (hlegal : rowLegal (.tomv res code16) s.family = true) :
    Ending (.tomv res code16) s (bodyTomv res code16 s) :=
  .finished _ (.start hlegal nofun) rfl

theorem ending_bodyChkid {expected : Byte} {nib : BitVec 4}
    (hlegal : rowLegal (.chkid expected nib) s.family = true) :
    Ending (.chkid expected nib) s (bodyChkid expected nib s) :=
  .finished _ (.start hlegal nofun) rfl

theorem ending_bodyInit20 {chid : Bool} (hlegal : rowLegal (.init20 chid) s.family = true) :
    Ending (.init20 chid) s (bodyInit20 chid s) := by
  refine .of_xchg (.start hlegal nofun) rfl fun _ _ _ h hs₁ => .of_xchg h (caches_of_session hs₁) fun _ _ _ h hs₂ =>
    .of_xchg h (caches_of_session (hs₂.trans hs₁)) fun _ _ _ h hs₃ => .finished 0 h.congr ?_
  obtain ⟨-, -, hosr, -⟩ := session_eq_iff.1 (hs₃.trans (hs₂.trans hs₁))
  simp [session, caches, sessionAfterOk, cachesAfterOk, stAfterOk, initedAfterOk, hosr]

theorem ending_bodyInit24 (hlegal : rowLegal .init24 s.family = true) : Ending .init24 s (bodyInit24 s) := by
  refine .of_xchg (.start hlegal nofun) rfl fun _ _ _ h hs₁ => .of_xchg h (caches_of_session hs₁) fun _ _ _ h hs₂ =>
    .finished 0 h.congr ?_
  obtain ⟨-, -, hosr, hchidEn⟩ := session_eq_iff.1 (hs₂.trans hs₁)
  simp [session, caches, sessionAfterOk, cachesAfterOk, stAfterOk, initedAfterOk, hosr, hchidEn]

theorem ending_bodySetavg {ratio : Byte} (hlegal : rowLegal (.setavg ratio) s.family = true) :
    Ending (.setavg ratio) s (bodySetavg ratio s) := by
  unfold bodySetavg
  split
  case isTrue hratio =>
    have hrange : ¬ outOfRange s.family (.setavg ratio) := Nat.not_lt.2 ((ratioLegal_iff ratio).1 hratio)
    refine .of_xchg (.start hlegal hrange) rfl fun _ _ _ h hs => .finished 0 h.congr ?_
    obtain ⟨hst, hinited, -, hchidEn⟩ := session_eq_iff.1 hs
    simp [session, caches, sessionAfterOk, cachesAfterOk, stAfterOk, initedAfterOk, hst, hinited, hchidEn]
  case isFalse => exact .rejected (.inl rfl)

end Bodies

section Sampling
variable {i : Instr} {s t u : State} {evs : List Event} {rs : List Sample}

/-! ### The sample-producing reads -/

/-- `read` is one more sample-producing read after `u`: an exchange and, where it was answered, a frame whose sample is
the next record in frame order. -/
def ReadsNext (i : Instr) (s : State) (evs : List Event) (rs : List Sample) (u : State) (fam : Family)
    (read : State × Option Frame) : Prop :=
  ∃ e, Runs i s (evs ++ [e]) rs read.1 ∧ session read.1 = session u ∧ read.1.pend = u.pend ∧
    ∀ fr, read.2 = some fr → sampledFrom s e rs.length (sampleOf read.1.cfg fam fr (BitVec.ofNat 8 rs.length))

/-- One read cycle and its decode (R142, R143). -/
theorem frame20_reads (h : Runs i s evs rs u) (hfam : s.family = .adc20) (hcaches : caches u = caches s) :
    ReadsNext i s evs rs u .adc20 (frame20 u) := by
  obtain ⟨-, hframe⟩ | ⟨rx, hrx, hframe⟩ := frame20_cases u <;> rw [hframe]
  · exact ⟨_, h.after_xchg .., rfl, rfl, nofun⟩
  · refine ⟨cycleEvent u.cfg (cycle20 u).2, (h.after_xchg ..).congr, rfl, rfl, ?_⟩
    rintro _ ⟨⟩
    obtain ⟨r1, r2, r3, rfl⟩ := List.length_eq_three.1 (xchg_length hrx)
    obtain ⟨hosr, hchidEn⟩ := Prod.mk.inj hcaches
    have hcfg : (latchFrame (rxFrame20 s.osr s.chidEn [r1, r2, r3]) (cycle20 u).1).cfg = s.cfg := h.cfg_eq
    rw [hrx, h.cfg_eq, hosr, hchidEn, hcfg]
    exact sampledFrom_adc20 hfam rs.length r1 r2 r3

/-- One read transfer and its decode (R172, R173). -/
theorem frame24_reads (h : Runs i s evs rs u) (hfam : s.family = .adc24) :
    ReadsNext i s evs rs u .adc24 (frame24 u) := by
  obtain ⟨-, hframe⟩ | ⟨rx, hrx, hframe⟩ := frame24_cases u <;> rw [hframe]
  · exact ⟨_, h.after_xchg .., rfl, rfl, nofun⟩
  · refine ⟨transferEvent u.cfg (xfer24 u).2, (h.after_xchg ..).congr, rfl, rfl, ?_⟩
    rintro _ ⟨⟩
    obtain ⟨r1, r2, rfl⟩ := List.length_eq_two.1 (xchg_length hrx)
    have hcfg : (latchFrame (decodeFrame24 (rxFrame [r1, r2])) (xfer24 u).1).cfg = s.cfg := h.cfg_eq
    rw [hrx, h.cfg_eq, hcfg]
    exact sampledFrom_adc24 hfam rs.length r1 r2

/-! ### SMAN -/

theorem family_of_rowLegal {fam : Family} (hrow : i.onFamily s.family = decide (s.family = fam))
    (h : rowLegal i s.family = true) : s.family = fam := by
  rw [rowLegal, Bool.and_eq_true, hrow] at h
  exact of_decide_eq_true h.2

/-- R150: two exchanges, then the one read. -/
theorem ending_bodySman20 {ch : Byte} (hlegal : rowLegal (.sman20 ch) s.family = true) :
    Ending (.sman20 ch) s (bodySman20 ch s) := by
  unfold bodySman20
  split
  case isFalse => exact .rejected (.inl rfl)
  case isTrue hch =>
    have hrange : ¬ outOfRange s.family (.sman20 ch) := Nat.not_lt.2 ((channelLegal_iff _ ch).1 hch)
    refine .of_xchg (Runs.start hlegal hrange).congr rfl fun u₁ _ _ h₁ hs₁ =>
      .of_xchg h₁ (caches_of_session hs₁) fun u₂ _ _ h₂ hs₂ => ?_
    have hs₂ := hs₂.trans hs₁
    obtain ⟨e, h₃, hs₃, -, hread⟩ := frame20_reads h₂ (family_of_rowLegal rfl hlegal) (caches_of_session hs₂)
    have hs₃ := hs₃.trans hs₂
    refine orIoError_keeps (P := Ending _ s) (.failed h₃ (caches_of_session hs₃) (.inl rfl)) fun fr hfr => ?_
    split
    · exact .finished _ (h₃.after_emit rfl (hread fr hfr) Nat.one_pos) hs₃
    · exact .failed h₃ (caches_of_session hs₃) (.inr rfl)

/-- R175: one exchange, then the one read. -/
theorem ending_bodySman24 {ch : Byte} (hlegal : rowLegal (.sman24 ch) s.family = true) :
    Ending (.sman24 ch) s (bodySman24 ch s) := by
  unfold bodySman24
  split
  case isFalse => exact .rejected (.inl rfl)
  case isTrue hch =>
    have hrange : ¬ outOfRange s.family (.sman24 ch) := Nat.not_lt.2 ((channelLegal_iff _ ch).1 hch)
    refine .of_xchg (Runs.start hlegal hrange).congr rfl fun u₁ _ _ h₁ hs₁ => ?_
    obtain ⟨e, h₂, hs₂, -, hread⟩ := frame24_reads h₁ (family_of_rowLegal rfl hlegal)
    have hs₂ := hs₂.trans hs₁
    exact orIoError_keeps (P := Ending _ s) (.failed h₂ (caches_of_session hs₂) (.inl rfl)) fun fr hfr =>
      .finished _ (h₂.after_emit rfl (hread fr hfr) Nat.one_pos) hs₂

/-! ### SSEQ -/

/-- A sequence that delivered all its records completes with its count as NSAMP (R153, R178). -/
theorem Ending.of_all_records {count : Byte} (result : Word) (h : Runs i s evs rs u) (hall : rs.length = maxRecords i)
    (hcount : count.toNat = maxRecords i) (hs : session u = sessionAfterOk s i) :
    Ending i s (finish .ok result count u) := by
  have hn : count = BitVec.ofNat 8 rs.length := by simp [hall, ← hcount]
  exact hn ▸ .finished result h hs

/-- An ADC20 sequence before it ends (R153): all its records are delivered, or PEND holds the error that ended the
reads. -/
def Sequenced (i : Instr) (s u : State) : Prop :=
  ∃ evs rs, Runs i s evs rs u ∧ session u = (.sequencing, s.inited, caches s) ∧
    ((u.pend = .ok ∧ rs.length = maxRecords i) ∨ u.pend = .ioError ∨ u.pend = .protocolDesync)

/-- The read cycles from frame number `rs.length` on, where every one before them gave its record. -/
theorem sequenced_readLoop20 (hfam : s.family = .adc20) {n : Nat} (h : Runs i s evs rs u)
    (hlen : evs.length = firstSampleRead s.family i + rs.length) (hroom : rs.length + n = maxRecords i)
    (hs : session u = (.sequencing, s.inited, caches s)) (hpend : u.pend = .ok) :
    Sequenced i s (readLoop20 n (BitVec.ofNat 8 rs.length) u) := by
  induction n generalizing evs rs u with
  | zero => exact ⟨evs, rs, h, hs, .inl ⟨hpend, hroom⟩⟩
  | succ n ih =>
    obtain ⟨e, hv, hsv, hpv, hread⟩ := frame20_reads h hfam (caches_of_session hs)
    have hsv := hsv.trans hs
    rcases hframe : frame20 u with ⟨v, _ | fr⟩ <;> rw [hframe] at hv hsv hpv hread <;> simp only [readLoop20, hframe]
    case none => exact ⟨_, rs, hv.congr, hsv, .inr (.inl rfl)⟩
    case some =>
      split
      · have hemit := hv.after_emit hlen (hread fr rfl) (by omega)
        have hnext := ih hemit (by simp only [List.length_append, List.length_singleton]; omega)
          (by simp only [List.length_append, List.length_singleton]; omega) hsv (hpv.trans hpend)
        simpa [BitVec.ofNat_add] using hnext
      · exact ⟨_, rs, hv.congr, hsv, .inr (.inr rfl)⟩

theorem sequenced_startAndRead20 (hfam : s.family = .adc20) {count : Byte} (h : Runs i s evs [] u)
    (hlen : evs.length + 1 = firstSampleRead s.family i) (hroom : count.toNat = maxRecords i)
    (hs : session u = (.sequencing, s.inited, caches s)) (hpend : u.pend = .ok) :
    Sequenced i s (startAndRead20 count u) := by
  have hv : Runs i s _ [] (regWrite20 u.cfg.regSeqMode u.cfg.valSeqStart u).1 := h.after_xchg ..
  have hsv : session (regWrite20 u.cfg.regSeqMode u.cfg.valSeqStart u).1 = _ := hs
  have hpv : (regWrite20 u.cfg.regSeqMode u.cfg.valSeqStart u).1.pend = .ok := hpend
  unfold startAndRead20
  split <;> rename_i hstart <;> rw [hstart] at hv hsv hpv
  · exact ⟨_, [], hv.congr, hsv, .inr (.inl rfl)⟩
  · exact sequenced_readLoop20 hfam hv (by simpa using hlen) (by simpa using hroom) hsv hpv

/-- The stop write can only add its own failure (R153, R217). -/
theorem sequenced_stopWrite20 (h : Sequenced i s u) : Sequenced i s (stopWrite20 u) := by
  obtain ⟨evs, rs, hu, hs, hpend⟩ := h
  rw [stopWrite20_eq]
  refine ⟨_, rs, (hu.after_xchg ..).congr, hs, ?_⟩
  by_cases hfail : (regWrite20 u.cfg.regSeqMode u.cfg.valSeqStop u).2 = none ∧ u.pend = .ok
  · exact .inr (.inl (if_pos hfail))
  · simpa only [if_neg hfail] using hpend

theorem ending_endSequence20 {count : Byte} (h : Sequenced i s u) (hcount : count.toNat = maxRecords i)
    (hafter : sessionAfterOk s i = (.idle, s.inited, caches s)) : Ending i s (endSequence20 count u) := by
  obtain ⟨evs, rs, hu, hs, hpend⟩ := h
  unfold endSequence20
  split
  case isTrue hok =>
    have hall : rs.length = maxRecords i := by simpa [hok] using hpend
    have hidle : session { u with st := .idle } = sessionAfterOk s i := by
      rw [hafter]
      exact congrArg (AcqState.idle, ·.2) hs
    exact .of_all_records 0 hu.congr hall hcount hidle
  case isFalse hne =>
    exact .failed hu (caches_of_session hs) (hpend.resolve_left fun h => hne h.1)

/-- R153: the mask write, the start write, the read cycles, the stop write. -/
theorem ending_bodySseq20 {stop count : Byte} (hlegal : rowLegal (.sseq20 stop count) s.family = true) :
    Ending (.sseq20 stop count) s (bodySseq20 stop count s) := by
  unfold bodySseq20
  split
  case isFalse => exact .rejected (.inl rfl)
  case isTrue hstop =>
    split
    case isFalse => exact .rejected (.inl rfl)
    case isTrue hcount =>
      rw [stopLegal_iff] at hstop
      rw [countLegal_iff] at hcount
      have hrange : ¬ outOfRange s.family (.sseq20 stop count) := by
        simp only [outOfRange, maxChannel] at hstop ⊢
        omega
      have hu : Runs (.sseq20 stop count) s [] []
          (latchMask (seqMask stop.toNat) { s with st := .sequencing, pend := .ok }) := (Runs.start hlegal hrange).congr
      refine orIoError_keeps (P := Ending _ s) (.failed (hu.after_xchg ..) rfl (.inl rfl)) fun _ _ => ?_
      exact ending_endSequence20 (sequenced_stopWrite20 (sequenced_startAndRead20 (family_of_rowLegal rfl hlegal)
        (hu.after_xchg ..) rfl rfl rfl rfl)) rfl rfl

/-- The read transfers from frame number `rs.length` on: a failure ends them, else all the records are delivered. -/
theorem runs_readLoop24 (hfam : s.family = .adc24) {n : Nat} (h : Runs i s evs rs u)
    (hlen : evs.length = firstSampleRead s.family i + rs.length) (hroom : rs.length + n = maxRecords i) :
    ∃ evs' rs', Runs i s evs' rs' (readLoop24 n (BitVec.ofNat 8 rs.length) u).1 ∧
      session (readLoop24 n (BitVec.ofNat 8 rs.length) u).1 = session u ∧
      ∀ a, (readLoop24 n (BitVec.ofNat 8 rs.length) u).2 = some a → rs'.length = maxRecords i := by
  induction n generalizing evs rs u with
  | zero => exact ⟨evs, rs, h, rfl, fun _ _ => hroom⟩
  | succ n ih =>
    obtain ⟨e, hv, hsv, -, hread⟩ := frame24_reads h hfam
    rcases hframe : frame24 u with ⟨v, _ | fr⟩ <;> rw [hframe] at hv hsv hread <;> simp only [readLoop24, hframe]
    case none => exact ⟨_, rs, hv, hsv, nofun⟩
    case some =>
      have hemit := hv.after_emit hlen (hread fr rfl) (by omega)
      obtain ⟨evs', rs', hend, hsend, hall⟩ := ih hemit (by simp only [List.length_append, List.length_singleton]; omega)
          (by simp only [List.length_append, List.length_singleton]; omega)
      rw [List.length_append, List.length_singleton, BitVec.ofNat_add] at hend hsend hall
      exact ⟨evs', rs', hend, hsend.trans hsv, hall⟩

/-- R178: one control write, then the read transfers, and no stop write. -/
theorem ending_bodySseq24 {stop count : Byte} (hlegal : rowLegal (.sseq24 stop count) s.family = true) :
    Ending (.sseq24 stop count) s (bodySseq24 stop count s) := by
  unfold bodySseq24
  split
  case isFalse => exact .rejected (.inl rfl)
  case isTrue hstop =>
    split
    case isFalse => exact .rejected (.inl rfl)
    case isTrue hcount =>
      rw [stopLegal_iff] at hstop
      rw [countLegal_iff] at hcount
      have hrange : ¬ outOfRange s.family (.sseq24 stop count) := by
        simp only [outOfRange, maxChannel] at hstop ⊢
        omega
      refine .of_xchg (Runs.start hlegal hrange).congr rfl fun u _ _ h hs => ?_
      obtain ⟨evs, rs, hv, hsv, hall⟩ := runs_readLoop24 (n := count.toNat) (family_of_rowLegal rfl hlegal) h rfl
        (Nat.zero_add _)
      have hsv := hsv.trans hs
      refine orIoError_keeps (P := Ending _ s) (.failed hv (caches_of_session hsv) (.inl rfl)) fun a ha => ?_
      exact .of_all_records 0 hv.congr (hall a ha) rfl (congrArg (AcqState.idle, ·.2) hsv)

/-- R92: one-operand SSEQ ends as the SSEQ of the block's family with count stop + 1. -/
theorem ending_bodySseqStop {stop : Byte} : Ending (.sseqStop stop) s (bodySseqStop stop s) := by
  have hmax : (stop + 1).toNat ≤ stop.toNat + 1 := by simpa using Nat.mod_le _ _
  unfold bodySseqStop
  split <;> rename_i hfam
  · refine (ending_bodySseq20 (by rw [hfam]; rfl)).transfer rfl ?_ hmax (by rw [hfam]; rfl) rfl
    simp only [outOfRange, hfam, maxChannel]
    omega
  · refine (ending_bodySseq24 (by rw [hfam]; rfl)).transfer rfl ?_ hmax (by rw [hfam]; rfl) rfl
    simp only [outOfRange, hfam, maxChannel]
    omega

end Sampling

/-! ### Every command -/

theorem commandBody_ending {i : Instr} {s : State} (hk : i.kind ≠ .wireFrame) (hlegal : rowLegal i s.family = true) :
    Ending i s (commandBody i s) := by
  cases i with
  | init20 chid => exact ending_bodyInit20 hlegal
  | init24 => exact ending_bodyInit24 hlegal
  | setavg ratio => exact ending_bodySetavg hlegal
  | modecfgRatio ratio => exact (ending_bodySetavg hlegal).transfer hlegal id le_rfl rfl rfl
  | sman20 ch => exact ending_bodySman20 hlegal
  | sman24 ch => exact ending_bodySman24 hlegal
  | sseq20 stop count => exact ending_bodySseq20 hlegal
  | sseq24 stop count => exact ending_bodySseq24 hlegal
  | sseqStop stop => exact ending_bodySseqStop
  | wreg addr value => exact ending_bodyWreg hlegal
  | rreg addr => exact ending_bodyRreg hlegal
  | readraw addr => exact (ending_bodyRreg hlegal).transfer hlegal id le_rfl rfl rfl
  | wctl word12 => exact ending_bodyWctl hlegal
  | modecfgWord12 word12 => exact (ending_bodyWctl hlegal).transfer hlegal id le_rfl rfl rfl
  | tomv res code16 => exact ending_bodyTomv hlegal
  | chkid expected nib => exact ending_bodyChkid hlegal
  | illegalOpc0 _ | illegalOpcA _ | illegalOpcB _ | illegalOpcC _ | illegalOpcD _ | illegalOpcE _ | illegalOpcF _ =>
    cases hlegal
  | w20 _ _ | r20a _ | r20b | f20 | f20Rx12 _ _ _ | f20Rx16 _ _ _ | c24 _ | cw12Manual _ | cw12Seq _ | p24 | f24
  | f24Rx _ _ | mask20 _ => exact absurd rfl hk

/-- What a command can do, said once: it is taken by an idle block, and ends in one of the three ways of `Ending`. -/
theorem exec_ending {i : Instr} {s t : State} (hk : i.kind ≠ .wireFrame) (h : exec i s = .next t) :
    s.busy = false ∧ Ending i (accept (encodeWord i) s) t := by
  rw [exec_eq_command hk] at h
  obtain ⟨hbusy, ⟨hlegal, rfl⟩ | ⟨-, rfl⟩⟩ := command_next h
  · exact ⟨hbusy, commandBody_ending hk hlegal⟩
  · exact ⟨hbusy, .rejected (.inr rfl)⟩

/-! ### What every ending leaves -/

section Ending
variable {first : Nat} {i : Instr} {s t u : State} {evs : List Event} {rs : List Sample}

theorem Progress.after_raise (e : Status) (h : Progress first s evs rs u) : Progress first s evs rs (raise e u) := by
  cases e <;> exact h.congr

@[simp] theorem caches_raise (e : Status) (s : State) : caches (raise e s) = caches s := by
  simp [caches]

theorem maxRecords_le_of_inRange {fam : Family} (h : ¬ outOfRange fam i) : maxRecords i ≤ 16 := by
  cases i with
  | sseq20 stop count | sseq24 stop count =>
    simp only [outOfRange, maxRecords] at h ⊢
    omega
  | sseqStop stop =>
    cases fam <;> simp only [outOfRange, maxChannel, maxRecords] at h ⊢ <;> omega
  | _ => simp [maxRecords]

/-- So NSAMP and IDX, of 8 bits, count the records of a command without loss (R24, R27). -/
theorem Runs.toNat_count (h : Runs i s evs rs u) : (BitVec.ofNat 8 rs.length).toNat = rs.length := by
  have := h.few.trans (maxRecords_le_of_inRange h.inRange)
  rw [BitVec.toNat_ofNat]
  omega

/-- The exchanges and the records of a command that has ended, with NSAMP the number of the records (R24). -/
theorem Ending.progress (h : Ending i s t) (hidx : s.idx = 0) :
    ∃ evs rs, Progress (firstSampleRead s.family i) s evs rs t ∧ rs.length ≤ maxRecords i ∧
      t.nsamp.toNat = rs.length := by
  cases h with
  | rejected he => exact ⟨[], [], (Progress.start _ s).after_raise _, Nat.zero_le _, by simp [hidx]⟩
  | failed h hcaches he =>
    exact ⟨_, _, h.toProgress.after_raise _, h.few, by simpa [h.idx, hidx] using h.toNat_count⟩
  | finished result h hsession => exact ⟨_, _, h.toProgress.congr, h.few, h.toNat_count⟩

/-- One response, whose RESULT is 0 unless the status is OK (R23, R89). -/
theorem Ending.response (h : Ending i s t) :
    t.busy = false ∧ t.responses = s.responses ++ [{ status := t.status, result := t.result, nsamp := t.nsamp }] ∧
      (t.status ≠ .ok → t.result = 0#32) := by
  cases h with
  | rejected he => simp
  | failed h hcaches he => simp [h.responses]
  | finished result h hsession => simp [h.responses]

/-- The caches move only with a command that completes OK (R31, R32). -/
theorem Ending.caches_eq (h : Ending i s t) :
    caches t = caches s ∨ t.status = .ok ∧ caches t = cachesAfterOk s i ∧ ¬ outOfRange s.family i := by
  cases h with
  | rejected he => exact .inl (caches_raise ..)
  | failed h hcaches he => exact .inl ((caches_raise ..).trans hcaches)
  | finished result h hsession => exact .inr ⟨rfl, caches_of_session hsession, h.inRange⟩

end Ending

/-- What a command appended to the trace and to OUT, and how many records that is. -/
theorem exec_progress {i : Instr} {s t : State} (hk : i.kind ≠ .wireFrame) (h : exec i s = .next t) :
    Progress (firstSampleRead s.family i) (accept (encodeWord i) s) (newEvents s t) (newRecords s t) t ∧
      (newRecords s t).length ≤ maxRecords i ∧ t.nsamp.toNat = (newRecords s t).length := by
  obtain ⟨evs, rs, hp, hmax, hn⟩ := (exec_ending hk h).2.progress rfl
  have hevs : newEvents s t = evs := by simp [newEvents, hp.trace]
  have hrs : newRecords s t = rs := by simp [newRecords, hp.out]
  rw [hevs, hrs]
  exact ⟨hp, hmax, hn⟩

/-! ### The wire-frame rows, run by themselves (log 8) -/

/-- A wire-frame row issues at most one exchange, delivers no record and leaves the session alone, unless its exchange
fails, which raises IoError. -/
def WireEnding (s t : State) : Prop :=
  ∃ evs u, Progress 0 s evs [] u ∧ session u = session s ∧ u.responses = s.responses ∧ u.busy = s.busy ∧
    (t = u ∨ t = raise .ioError u)

theorem wireEnding_exchangeOnly (tx : List Byte) (hold : Bool) (s : State) :
    WireEnding s (exchangeOnly (xchg tx hold s)) :=
  ⟨_, _, (Progress.start 0 s).after_xchg tx hold, rfl, rfl, rfl,
    orIoError_keeps (P := fun t => t = (xchg tx hold s).1 ∨ t = raise .ioError (xchg tx hold s).1) (.inr rfl)
      fun _ _ => .inl rfl⟩

/-- A row that only builds or decodes a value: the latches apart, `t` is `s`. -/
theorem wireEnding_silent {s : State} (t : State) (h : Progress 0 s [] [] t)
    (hsession : session t = session s := by rfl) (hresponses : t.responses = s.responses := by rfl)
    (hbusy : t.busy = s.busy := by rfl) : WireEnding s t :=
  ⟨[], t, h, hsession, hresponses, hbusy, .inl rfl⟩

theorem wireEnding_primitive {fam : Family} {body : State → State} {s t : State} (hbody : ∀ s, WireEnding s (body s))
    (h : primitive fam body s = .next t) : WireEnding s t := by
  obtain ⟨-, rfl⟩ := primitive_next h
  exact hbody s

theorem exec_wireEnding {i : Instr} {s t : State} (hk : i.kind = .wireFrame) (h : exec i s = .next t) :
    WireEnding s t := by
  cases i with
  | w20 _ _ | r20a _ | r20b | f20 | c24 _ | p24 | f24 =>
    exact wireEnding_primitive (fun _ => wireEnding_exchangeOnly ..) h
  | f20Rx12 _ _ _ | f20Rx16 _ _ _ =>
    exact wireEnding_primitive (fun s => wireEnding_silent (receive20 _ s) (Progress.start 0 s).congr) h
  | f24Rx _ _ =>
    exact wireEnding_primitive
      (fun s => wireEnding_silent (decode24 _ (latchRx _ s)).1 (Progress.start 0 s).congr) h
  | cw12Manual _ | cw12Seq _ =>
    exact wireEnding_primitive (fun s => wireEnding_silent (latchCw _ s) (Progress.start 0 s).congr) h
  | mask20 _ => exact wireEnding_primitive (fun s => wireEnding_silent (latchMask _ s) (Progress.start 0 s).congr) h
  | _ => cases hk

/-! ### The statements about one command -/

/-- Settles O16: an idle block takes every command, and each of its endings writes one response. -/
theorem everyCommandRespondsOnce : Obligations.EveryCommandRespondsOnce := by
  unfold Obligations.EveryCommandRespondsOnce
  intro i s hk hidle
  have hexec := (exec_eq_command hk s).trans (command_idle _ _ _ hidle)
  obtain ⟨hbusy, hresponses, hresult⟩ := (exec_ending hk hexec).2.response
  obtain ⟨hp, -, -⟩ := exec_progress hk hexec
  obtain ⟨⟨hfamily, hcfg⟩, hopw, hport⟩ := fixedPart_eq_iff.1 hp.fixed
  exact ⟨_, hexec, hbusy, hopw, hresponses, hresult, ⟨_, hp.trace.symm⟩, ⟨_, hp.out.symm⟩, hport, hfamily, hcfg⟩

theorem cachesAfterOk_osr {s : State} {i : Instr} (h : (cachesAfterOk s i).1 ≠ s.osr) :
    ∃ ratio : Byte, (i = .setavg ratio ∨ i = .modecfgRatio ratio) ∧
      (cachesAfterOk s i).1 = ratio.extractLsb' 0 3 := by
  cases i with
  | setavg ratio => exact ⟨ratio, .inl rfl, rfl⟩
  | modecfgRatio ratio => exact ⟨ratio, .inr rfl, rfl⟩
  | _ => exact absurd rfl h

theorem cachesAfterOk_chidEn {s : State} {i : Instr} (h : (cachesAfterOk s i).2 ≠ s.chidEn) :
    i = .init20 (cachesAfterOk s i).2 := by
  cases i with
  | init20 chid => rfl
  | _ => exact absurd rfl h

/-- Only a command that completes OK moves the caches, as its row says. -/
theorem exec_caches {i : Instr} {s t : State} (h : exec i s = .next t) :
    caches t = caches s ∨ t.status = .ok ∧ caches t = cachesAfterOk s i ∧ ¬ outOfRange s.family i := by
  by_cases hk : i.kind = .wireFrame
  · obtain ⟨evs, u, -, hs, -, -, rfl | rfl⟩ := exec_wireEnding hk h
    · exact .inl (caches_of_session hs)
    · exact .inl ((caches_raise ..).trans (caches_of_session hs))
  · exact (exec_ending hk h).2.caches_eq

/-- Settles O19: by what a command leaves in the caches, and by the range of SETAVG's ratio. -/
theorem cachesHaveOneWriter : Obligations.CachesHaveOneWriter := by
  unfold Obligations.CachesHaveOneWriter
  intro i s t h
  obtain hsame | ⟨hok, hcaches, hrange⟩ := exec_caches h
  · obtain ⟨hosr, hchidEn⟩ := Prod.mk.inj hsame
    exact ⟨fun hne => absurd hosr hne, fun hne => absurd hchidEn hne⟩
  · have hosr : t.osr = (cachesAfterOk s i).1 := congrArg Prod.fst hcaches
    have hchidEn : t.chidEn = (cachesAfterOk s i).2 := congrArg Prod.snd hcaches
    refine ⟨fun hne => ⟨hok, ?_⟩, fun hne => ⟨hok, ?_⟩⟩
    · obtain ⟨ratio, hi, hratio⟩ := cachesAfterOk_osr (hosr ▸ hne)
      have hle : ratio.toNat ≤ 7 := by obtain rfl | rfl := hi <;> exact Nat.not_lt.1 hrange
      refine ⟨ratio, hi, ?_⟩
      rw [hosr, hratio, BitVec.extractLsb'_toNat]
      omega
    · rw [hchidEn]
      exact cachesAfterOk_chidEn (hchidEn ▸ hne)

/-- Settles O20: the three endings of a command are the three lines of the table. -/
theorem acquisitionStateFollowsTheTable : Obligations.AcquisitionStateFollowsTheTable := by
  unfold Obligations.AcquisitionStateFollowsTheTable
  intro i s t hk h
  cases (exec_ending hk h).2 with
  | rejected he => obtain rfl | rfl := he <;> exact ⟨rfl, rfl⟩
  | failed h hcaches he => obtain rfl | rfl := he <;> exact ⟨rfl, rfl⟩
  | finished result h hsession => exact ⟨congrArg (·.1) hsession, congrArg (·.2.1) hsession⟩

/-- Settles O24: every ending leaves in NSAMP the number of records delivered, and a body delivers at most its row's. -/
theorem nsampCountsTheRecords : Obligations.NsampCountsTheRecords := by
  unfold Obligations.NsampCountsTheRecords
  intro i s t hk h
  obtain ⟨hp, hmax, hn⟩ := exec_progress hk h
  exact ⟨hp.out, hn, hmax⟩

/-- Settles O25: each record is the sample of its read (`Progress.sampled`), and the last one stands in the last-sample
registers (`Progress.last`). -/
theorem recordsStandInFrameOrder : Obligations.RecordsStandInFrameOrder := by
  unfold Obligations.RecordsStandInFrameOrder
  intro i s t hk h
  obtain ⟨hp, -, -⟩ := exec_progress hk h
  refine ⟨fun k r hr => ?_, fun hnone => ?_, fun r hr => ?_⟩
  · obtain ⟨e, he, hs⟩ := hp.sampled k r hr
    obtain ⟨hidx, hok, hchidv⟩ := sampledFrom_sound hs
    exact ⟨hidx, hok, hchidv, e, he, hs⟩
  · simpa [hnone, lastSample] using hp.last
  · simpa [hr, lastSample] using hp.last

/-! ### The invariant (R41) -/

/-- The clauses of R41 that hold while a command runs too: the last-sample registers and OUT hold samples of the family,
and an ADC24 block's caches stand at their reset values. -/
def SoundData (s : State) : Prop :=
  recordOk s.cfg s.family (lastSample s) ∧ (∀ r ∈ s.out, recordOk s.cfg s.family r) ∧
    (s.family = .adc24 → caches s = (0#3, false))

theorem inv_iff (s : State) :
    inv s ↔ s.busy = false ∧ s.st ≠ .sequencing ∧ SoundData s ∧
      (s.inited = true → lastStatus s ≠ some .ioError ∧ lastStatus s ≠ some .protocolDesync) := by
  simp only [inv, SoundData, caches, Prod.mk.injEq, and_assoc]

section Invariant
variable {first : Nat} {i : Instr} {s t u : State} {evs : List Event} {rs : List Sample}

/-- What a command delivers are samples of the family, so that sound data stays sound. -/
theorem Progress.sound (h : Progress first s evs rs u) (hs : SoundData s)
    (hcaches : s.family = .adc24 → caches u = caches s) : SoundData u := by
  obtain ⟨hlast, hout, hadc24⟩ := hs
  obtain ⟨hlast', hout'⟩ := h.records_ok hlast hout
  refine ⟨hlast', hout', fun hfam => ?_⟩
  rw [h.family_eq] at hfam
  exact (hcaches hfam).trans (hadc24 hfam)

/-- After an error INITED = 1 only if the error left it (R216). -/
theorem inv_raise {e : Status} (hs : SoundData (raise e u))
    (hst : u.st ≠ .sequencing ∨ e = .ioError ∨ e = .protocolDesync) : inv (raise e u) := by
  rw [inv_iff, lastStatus_raise, raise_inited_eq]
  refine ⟨raise_busy e u, ?_, hs, fun h => by simpa using (Bool.and_eq_true_iff.1 h).1⟩
  obtain hst | rfl | rfl := hst
  · cases e <;> simp [hst]
  · exact nofun
  · exact nofun

theorem inv_finish {result : Word} {n : Byte} (hs : SoundData u) (hst : u.st ≠ .sequencing) :
    inv (finish .ok result n u) := by
  rw [inv_iff, lastStatus_finish]
  exact ⟨rfl, hst, hs, fun _ => ⟨nofun, nofun⟩⟩

theorem stAfterOk_ne_sequencing {st : AcqState} (h : st ≠ .sequencing) (i : Instr) : stAfterOk st i ≠ .sequencing := by
  cases i with
  | init20 _ | init24 | sman20 _ | sman24 _ | sseq20 _ _ | sseq24 _ _ | sseqStop _ => exact nofun
  | _ => exact h

/-- No row of an ADC24 block writes the caches (R31, R32). -/
theorem cachesAfterOk_adc24 (hlegal : rowLegal i .adc24 = true) : cachesAfterOk s i = caches s := by
  cases i with
  | init20 _ | setavg _ | modecfgRatio _ => cases hlegal
  | _ => rfl

theorem Ending.inv (h : Ending i s t) (hs : SoundData s) (hst : s.st ≠ .sequencing) : Machine.inv t := by
  cases h with
  | @rejected e he =>
    exact inv_raise (((Progress.start 0 s).after_raise e).sound hs fun _ => caches_raise ..) (.inl hst)
  | @failed _ _ _ e h hcaches he =>
    exact inv_raise ((h.toProgress.after_raise e).sound hs fun _ => (caches_raise ..).trans hcaches) (.inr he)
  | @finished _ _ u result h hsession =>
    have hst' : u.st = stAfterOk s.st i := congrArg (·.1) hsession
    refine inv_finish (h.toProgress.sound hs fun hfam => ?_) (hst' ▸ stAfterOk_ne_sequencing hst i)
    exact (caches_of_session hsession).trans (cachesAfterOk_adc24 (hfam ▸ h.legal))

theorem WireEnding.inv (h : WireEnding s t) (hinv : Machine.inv s) : Machine.inv t := by
  obtain ⟨evs, u, hp, hsession, hresponses, hbusy, hend⟩ := h
  obtain ⟨hidle, hst, hs, hinited⟩ := (inv_iff s).1 hinv
  obtain ⟨hst', hinited', -⟩ := session_eq_iff.1 hsession
  have hcaches := caches_of_session hsession
  obtain rfl | rfl := hend
  · refine (inv_iff _).2 ⟨hbusy.trans hidle, hst' ▸ hst, hp.sound hs fun _ => hcaches, ?_⟩
    rw [hinited', lastStatus_congr hresponses]
    exact hinited
  · exact inv_raise ((hp.after_raise _).sound hs fun _ => (caches_raise ..).trans hcaches) (.inr (.inl rfl))

theorem inv_exec (hinv : inv s) (h : exec i s = .next t) : inv t := by
  obtain ⟨-, hst, hs, -⟩ := (inv_iff s).1 hinv
  by_cases hk : i.kind = .wireFrame
  · exact (exec_wireEnding hk h).inv hinv
  · exact (exec_ending hk h).2.inv hs hst

theorem inv_resetRequest (h : resetRequest s = .next t) : inv t := by
  unfold resetRequest at h
  split at h <;> cases h
  exact ⟨rfl, nofun, recordOk_zero s.cfg s.family 0, nofun, fun _ => ⟨rfl, rfl⟩, nofun⟩

theorem inv_undecodable {c : Code} (hinv : inv s) (h : undecodable c s = .next t) : inv t := by
  obtain ⟨-, hst, hs, -⟩ := (inv_iff s).1 hinv
  cases c with
  | wire sh v => cases h
  | word w =>
    obtain ⟨-, ⟨hlegal, -⟩ | ⟨-, rfl⟩⟩ := command_next h
    · cases hlegal
    · exact inv_raise (((Progress.start 0 (accept w s)).after_raise _).sound hs fun _ => rfl) (.inl hst)

end Invariant

/-- Settles O12: a step waits, resets, runs an instruction or rejects a code; each of the four keeps the invariant. -/
theorem stepKeepsTheInvariant : Obligations.StepKeepsTheInvariant := by
  unfold Obligations.StepKeepsTheInvariant
  intro s t hinv h
  have htake : inv (takeRequest s) := hinv
  obtain ⟨-, hs⟩ | ⟨_, -, hs⟩ | ⟨_, _, _, -, -, hs⟩ | ⟨_, _, _, -, -, hs⟩ := step_cases s <;> rw [hs] at h
  case inl => cases h; exact hinv
  case inr.inl => exact inv_resetRequest h
  case inr.inr.inl => exact inv_exec htake h
  case inr.inr.inr => exact inv_undecodable htake h

end Sys2Proof.Machine

/-! PROOFS for spec/20_memory.md: the exchanges of a block. A run of exchanges is described by `Issues` (each has a
listed shape of the family and an answer of the length sent, R51, R54). `IssuesChained` adds that held reads are chained
(R52); every shared operation and every body of a command keeps it, and the statements are read off the two. -/

namespace Sys2Proof.Machine

/-! ### A wire-frame row is a primitive of its family (log 8) -/

/-- What a wire-frame row does on a block of its family; nothing where the row is no wire frame. -/
def wireBody : Instr → State → State
  | .w20 addr value => fun s => exchangeOnly (regWrite20 addr value s)
  | .r20a addr => fun s => exchangeOnly (regReadFirst addr s)
  | .r20b => fun s => exchangeOnly (regReadSecond s)
  | .f20 => fun s => exchangeOnly (cycle20 s)
  | .f20Rx12 code nib ignored => receive20 (layout12 code nib ignored)
  | .f20Rx16 code nib ignored => receive20 (layout16 code nib ignored)
  | .c24 cw => fun s => exchangeOnly (ctlWrite24 cw s)
  | .cw12Manual ch => fun s => latchCw (channelWord s.cfg.baseManual ch) s
  | .cw12Seq stop => fun s => latchCw (channelWord s.cfg.baseSeq stop) s
  | .p24 => fun s => exchangeOnly (preamble24 s)
  | .f24 => fun s => exchangeOnly (xfer24 s)
  | .f24Rx ignored code => fun s =>
    (decode24 (frameBytes (layout24 ignored code)) (latchRx (frameBytes (layout24 ignored code)) s)).1
  | .mask20 stop => latchMask (seqMask stop.toNat)
  | _ => id

theorem exec_eq_primitive {i : Instr} (hk : i.kind = .wireFrame) :
    ∃ fam, (∀ f, i.onFamily f = decide (f = fam)) ∧ ∀ s, exec i s = primitive fam (wireBody i) s := by
  cases i with
  | w20 _ _ | r20a _ | r20b | f20 | f20Rx12 _ _ _ | f20Rx16 _ _ _ | mask20 _ =>
    exact ⟨.adc20, fun _ => rfl, fun _ => rfl⟩
  | c24 _ | cw12Manual _ | cw12Seq _ | p24 | f24 | f24Rx _ _ => exact ⟨.adc24, fun _ => rfl, fun _ => rfl⟩
  | _ => cases hk

/-- Settles O53: each of the thirteen rows is a primitive of the one family that has the row. -/
theorem wireRowsOfTheOtherFamilyStop : Obligations.WireRowsOfTheOtherFamilyStop := by
  unfold Obligations.WireRowsOfTheOtherFamilyStop
  intro s i hk hother
  obtain ⟨fam, hrow, hexec⟩ := exec_eq_primitive hk
  rw [hrow] at hother
  rw [hexec]
  exact if_neg (of_decide_eq_false hother)

/-! ### The shapes of R51 -/

section Shapes
variable {cfg : Cfg} {fam : Family}

/-- The two bytes of a frame, most significant first, are the frame (R58). -/
theorem pairFrame_frameBytes (f : Half) : pairFrame (f.extractLsb' 8 8) (f.extractLsb' 0 8) = f := by
  apply BitVec.eq_of_getLsbD_eq
  intro i hi
  interval_cases i <;> simp [pairFrame, getElem_place]

theorem shapeOk_writeEvent (hfam : fam = .adc20) (addr value : Byte) (rx : Option (List Byte)) :
    shapeOk cfg fam (writeEvent cfg addr value rx) = true := by
  simp [hfam, shapeOk, writeEvent]

theorem shapeOk_readFirstEvent (hfam : fam = .adc20) (addr : Byte) (rx : Option (List Byte)) :
    shapeOk cfg fam (readFirstEvent cfg addr rx) = true := by
  simp [hfam, shapeOk, readFirstEvent]

theorem shapeOk_readSecondEvent (hfam : fam = .adc20) (rx : Option (List Byte)) :
    shapeOk cfg fam (readSecondEvent cfg rx) = true := by
  simp [hfam, shapeOk, readSecondEvent]

theorem shapeOk_cycleEvent (hfam : fam = .adc20) (rx : Option (List Byte)) :
    shapeOk cfg fam (cycleEvent cfg rx) = true := by
  simp [hfam, shapeOk, cycleEvent]

theorem shapeOk_preambleEvent (hfam : fam = .adc24) (rx : Option (List Byte)) :
    shapeOk cfg fam (preambleEvent rx) = true := by
  simp [hfam, shapeOk, preambleEvent, show pairFrame 255#8 255#8 = 65535#16 by decide]

theorem shapeOk_transferEvent (hfam : fam = .adc24) (rx : Option (List Byte)) :
    shapeOk cfg fam (transferEvent cfg rx) = true := by
  simp [hfam, shapeOk, transferEvent, frameBytes, pairFrame_frameBytes]

/-- A control word shifted left by 4 has its low nibble free, an unshifted one its high nibble (R102). -/
theorem shapeOk_controlEvent (hfam : fam = .adc24) (cw : BitVec 12) (rx : Option (List Byte)) :
    shapeOk cfg fam (controlEvent cfg cw rx) = true := by
  have hleft : ((controlFrame .left4 cw).extractLsb' 0 8).extractLsb' 0 4 = 0#4 := by
    apply BitVec.eq_of_getLsbD_eq
    intro i hi
    interval_cases i <;> simp [controlFrame, CwShift.amount, getElem_place]
  have hnone : ((controlFrame .none0 cw).extractLsb' 8 8).extractLsb' 4 4 = 0#4 := by
    apply BitVec.eq_of_getLsbD_eq
    intro i hi
    interval_cases i <;> simp [controlFrame, CwShift.amount, getElem_place]
  cases hshift : cfg.cwShift <;> simp [hfam, shapeOk, controlEvent, frameBytes, hshift, hleft, hnone]

end Shapes

/-! ### Chained reads (R52) -/

section Chained
variable {cfg : Cfg} {e e' : Event} {es es' : List Event}

theorem chainedReadsOk_singleton :
    chainedReadsOk cfg [e] = true ↔ (e.hold && e.rx.isSome) = false ∧ e.tx.length ≠ 1 := by
  rw [chainedReadsOk, Bool.and_eq_true, Bool.not_eq_true', decide_eq_true_eq]

/-- After an answered held exchange comes its release. -/
theorem chainedReadsOk_cons_held (hheld : (e.hold && e.rx.isSome) = true) :
    chainedReadsOk cfg (e :: e' :: es) = true ↔
      (e'.tx = [cfg.dummy] ∧ e'.hold = false) ∧ chainedReadsOk cfg es = true := by
  rw [chainedReadsOk, if_pos hheld, Bool.and_eq_true, Bool.and_eq_true, decide_eq_true_eq, Bool.not_eq_true']

/-- After any other exchange the list begins anew. -/
theorem chainedReadsOk_cons_free (hfree : ¬ (e.hold && e.rx.isSome) = true) :
    chainedReadsOk cfg (e :: e' :: es) = true ↔ e.tx.length ≠ 1 ∧ chainedReadsOk cfg (e' :: es) = true := by
  rw [chainedReadsOk, if_neg hfree, Bool.and_eq_true, decide_eq_true_eq]

/-- A chained list leaves no answered held exchange open, so that another can follow it. -/
theorem chainedReadsOk_append (h : chainedReadsOk cfg es = true) (h' : chainedReadsOk cfg es' = true) :
    chainedReadsOk cfg (es ++ es') = true := by
  induction es using chainedReadsOk.induct with
  | case1 => exact h'
  | case2 e =>
    obtain ⟨hfree, hlen⟩ := chainedReadsOk_singleton.1 h
    cases es' with
    | nil => exact h
    | cons e' rest => exact (chainedReadsOk_cons_free (ne_true_of_eq_false hfree)).2 ⟨hlen, h'⟩
  | case3 e e' rest hheld ih =>
    obtain ⟨hrelease, hrest⟩ := (chainedReadsOk_cons_held hheld).1 h
    exact (chainedReadsOk_cons_held hheld).2 ⟨hrelease, ih hrest⟩
  | case4 e e' rest hfree ih =>
    obtain ⟨hlen, hrest⟩ := (chainedReadsOk_cons_free hfree).1 h
    exact (chainedReadsOk_cons_free hfree).2 ⟨hlen, ih hrest⟩

/-- The last event of a chained list is a whole exchange, the second of a read, or a failed one. -/
theorem endsOnHeldRead_of_chainedReadsOk (h : chainedReadsOk cfg es = true) : endsOnHeldRead es = false := by
  induction es using chainedReadsOk.induct with
  | case1 => rfl
  | case2 e => exact (chainedReadsOk_singleton.1 h).1
  | case3 e e' rest hheld ih =>
    obtain ⟨⟨-, hreleased⟩, hrest⟩ := (chainedReadsOk_cons_held hheld).1 h
    cases rest with
    | nil => simp [endsOnHeldRead, hreleased]
    | cons e'' rest => exact ih hrest
  | case4 e e' rest hfree ih => exact ih ((chainedReadsOk_cons_free hfree).1 h).2

end Chained

/-! ### A run of exchanges -/

/-- From `s` the block came to `u`, its straps unchanged, by issuing the exchanges `evs`, each of a listed shape of the
family (R51) and each answer taken of the length sent (R54). -/
structure Issues (s : State) (evs : List Event) (u : State) : Prop where
  straps : straps u = straps s
  trace : u.trace = s.trace ++ evs
  listed : ∀ e ∈ evs, shapeOk s.cfg s.family e = true ∧ lengthOk e = true

/-- From `s` the block came to `u` by listed exchanges whose held reads are chained (R52). -/
def IssuesChained (s u : State) : Prop := ∃ evs, Issues s evs u ∧ chainedReadsOk s.cfg evs = true

/-- An exchange takes no answer of another length than was sent. -/
theorem lengthOk_xchg (tx : List Byte) (hold : Bool) (s : State) :
    lengthOk { tx := tx, hold := hold, rx := (xchg tx hold s).2 } = true := by
  cases h : (xchg tx hold s).2 with
  | none => rfl
  | some rx => exact decide_eq_true (xchg_length h)

section Issues
variable {s u v : State} {evs : List Event}

theorem Issues.start (s : State) : Issues s [] s where
  straps := rfl
  trace := (List.append_nil _).symm
  listed := nofun

theorem Issues.congr (h : Issues s evs u) (hstraps : Machine.straps v = Machine.straps u := by rfl)
    (htrace : v.trace = u.trace := by rfl) : Issues s evs v where
  straps := hstraps.trans h.straps
  trace := htrace.trans h.trace
  listed := h.listed

theorem Issues.family_eq (h : Issues s evs u) : u.family = s.family := (straps_eq_iff.1 h.straps).1

theorem Issues.cfg_eq (h : Issues s evs u) : u.cfg = s.cfg := (straps_eq_iff.1 h.straps).2

theorem Issues.newEvents_eq (h : Issues s evs u) : newEvents s u = evs := by
  simp [newEvents, h.trace]

theorem Issues.after_xchg (h : Issues s evs u) {tx : List Byte} {hold : Bool}
    (hshape : ∀ rx, shapeOk u.cfg u.family { tx := tx, hold := hold, rx := rx } = true) :
    Issues s (evs ++ [{ tx := tx, hold := hold, rx := (xchg tx hold u).2 }]) (xchg tx hold u).1 where
  straps := h.straps
  trace := by simp [h.trace]
  listed e he := by
    rw [List.mem_append, List.mem_singleton] at he
    obtain he | rfl := he
    · exact h.listed e he
    · rw [← h.family_eq, ← h.cfg_eq]
      exact ⟨hshape _, lengthOk_xchg ..⟩

theorem Issues.after_raise (h : Issues s evs u) (e : Status) : Issues s evs (raise e u) :=
  h.congr (straps_raise ..) (raise_trace ..)

/-! ### What keeps held reads chained: the shared operations -/

theorem IssuesChained.start (s : State) : IssuesChained s s := ⟨[], .start s, rfl⟩

theorem IssuesChained.congr (h : IssuesChained s u) (hstraps : straps v = straps u := by rfl)
    (htrace : v.trace = u.trace := by rfl) : IssuesChained s v := by
  obtain ⟨evs, hu, hchained⟩ := h
  exact ⟨evs, hu.congr hstraps htrace, hchained⟩

theorem IssuesChained.family_eq (h : IssuesChained s u) : u.family = s.family := by
  obtain ⟨_, hu, -⟩ := h
  exact hu.family_eq

theorem IssuesChained.after_raise (h : IssuesChained s u) (e : Status) : IssuesChained s (raise e u) :=
  h.congr (straps_raise ..) (raise_trace ..)

/-- Going on after an exchange: IoError issues nothing more. -/
theorem IssuesChained.of_orIoError {α : Type} {r : State × Option α} {k : State → α → State} (h : IssuesChained s r.1)
    (hk : ∀ v a, IssuesChained s v → IssuesChained s (k v a)) : IssuesChained s (orIoError r k) :=
  orIoError_keeps (P := IssuesChained s) (h.after_raise .ioError) fun a _ => hk r.1 a h

/-- An exchange that does not hold chip-select, of more than one byte. -/
theorem IssuesChained.after_whole (h : IssuesChained s u) {tx : List Byte} (hlen : tx.length ≠ 1)
    (hshape : ∀ rx, shapeOk u.cfg u.family { tx := tx, hold := false, rx := rx } = true) :
    IssuesChained s (xchg tx false u).1 := by
  obtain ⟨evs, hu, hchained⟩ := h
  exact ⟨_, hu.after_xchg hshape, chainedReadsOk_append hchained (chainedReadsOk_singleton.2 ⟨rfl, hlen⟩)⟩

theorem IssuesChained.after_regWrite20 (h : IssuesChained s u) (hfam : s.family = .adc20) (addr value : Byte) :
    IssuesChained s (regWrite20 addr value u).1 :=
  h.after_whole (by simp) (shapeOk_writeEvent (h.family_eq.trans hfam) addr value)

theorem IssuesChained.after_cycle20 (h : IssuesChained s u) (hfam : s.family = .adc20) :
    IssuesChained s (cycle20 u).1 :=
  h.after_whole (by simp) (shapeOk_cycleEvent (h.family_eq.trans hfam))

theorem IssuesChained.after_ctlWrite24 (h : IssuesChained s u) (hfam : s.family = .adc24) (cw : BitVec 12) :
    IssuesChained s (ctlWrite24 cw u).1 :=
  h.after_whole (by simp [frameBytes]) (shapeOk_controlEvent (h.family_eq.trans hfam) cw)

theorem IssuesChained.after_preamble24 (h : IssuesChained s u) (hfam : s.family = .adc24) :
    IssuesChained s (preamble24 u).1 :=
  h.after_whole (by simp [frameBytes]) (shapeOk_preambleEvent (h.family_eq.trans hfam))

theorem IssuesChained.after_xfer24 (h : IssuesChained s u) (hfam : s.family = .adc24) :
    IssuesChained s (xfer24 u).1 :=
  h.after_whole (by simp [frameBytes]) (shapeOk_transferEvent (h.family_eq.trans hfam))

theorem IssuesChained.after_frame20 (h : IssuesChained s u) (hfam : s.family = .adc20) :
    IssuesChained s (frame20 u).1 := by
  obtain ⟨-, hframe⟩ | ⟨rx, -, hframe⟩ := frame20_cases u <;> rw [hframe]
  · exact h.after_cycle20 hfam
  · exact (h.after_cycle20 hfam).congr

theorem IssuesChained.after_frame24 (h : IssuesChained s u) (hfam : s.family = .adc24) :
    IssuesChained s (frame24 u).1 := by
  obtain ⟨-, hframe⟩ | ⟨rx, -, hframe⟩ := frame24_cases u <;> rw [hframe]
  · exact h.after_xfer24 hfam
  · exact (h.after_xfer24 hfam).congr

/-- RegRead20 (R123), the only use of a held exchange: answered, its release follows at once; failed, nothing does. -/
theorem IssuesChained.after_regRead {addr : Byte} {k : State → List Byte → State} (h : IssuesChained s u)
    (hfam : s.family = .adc20) (hk : ∀ v rx, IssuesChained s v → IssuesChained s (k v rx)) :
    IssuesChained s (orIoError (regReadFirst addr u) fun v _ => orIoError (regReadSecond v) k) := by
  have hfam' : u.family = .adc20 := h.family_eq.trans hfam
  obtain ⟨evs, hu, hchained⟩ := h
  have hfirst : Issues s (evs ++ [readFirstEvent u.cfg addr (regReadFirst addr u).2]) (regReadFirst addr u).1 :=
    hu.after_xchg (shapeOk_readFirstEvent hfam' addr)
  obtain ⟨hfail, hraise⟩ | ⟨rx, hanswered, hnext⟩ := orIoError_cases (regReadFirst addr u) fun v _ =>
    orIoError (regReadSecond v) k
  · rw [hraise]
    refine ⟨_, hfirst.after_raise .ioError, chainedReadsOk_append hchained (chainedReadsOk_singleton.2 ⟨?_, nofun⟩)⟩
    simp [readFirstEvent, hfail]
  · rw [hnext]
    have hsecond : Issues s _ (regReadSecond (regReadFirst addr u).1).1 :=
      hfirst.after_xchg (shapeOk_readSecondEvent hfam')
    have hcfg : (regReadFirst addr u).1.cfg = s.cfg := hu.cfg_eq
    refine IssuesChained.of_orIoError ⟨_, hsecond, ?_⟩ hk
    rw [List.append_assoc]
    have hheld : ((readFirstEvent u.cfg addr (regReadFirst addr u).2).hold &&
        (readFirstEvent u.cfg addr (regReadFirst addr u).2).rx.isSome) = true := by simp [readFirstEvent, hanswered]
    exact chainedReadsOk_append hchained ((chainedReadsOk_cons_held hheld).2 ⟨⟨by rw [hcfg], rfl⟩, rfl⟩)

/-! ### The bodies of the commands -/

theorem IssuesChained.after_bodyWreg (h : IssuesChained s u) (hfam : s.family = .adc20) (addr value : Byte) :
    IssuesChained s (bodyWreg addr value u) :=
  .of_orIoError (h.after_regWrite20 hfam ..) fun _ _ h => h.congr

theorem IssuesChained.after_bodyRreg (h : IssuesChained s u) (hfam : s.family = .adc20) (addr : Byte) :
    IssuesChained s (bodyRreg addr u) :=
  h.after_regRead hfam fun _ _ h => h.congr

theorem IssuesChained.after_bodyWctl (h : IssuesChained s u) (hfam : s.family = .adc24) (word12 : BitVec 12) :
    IssuesChained s (bodyWctl word12 u) :=
  .of_orIoError (h.after_ctlWrite24 hfam _) fun _ _ h => h.congr

theorem IssuesChained.after_bodyInit20 (h : IssuesChained s u) (hfam : s.family = .adc20) (chid : Bool) :
    IssuesChained s (bodyInit20 chid u) :=
  .of_orIoError (h.after_regWrite20 hfam ..) fun _ _ h => .of_orIoError (h.after_regWrite20 hfam ..) fun _ _ h =>
  .of_orIoError (h.after_regWrite20 hfam ..) fun _ _ h => h.congr

theorem IssuesChained.after_bodyInit24 (h : IssuesChained s u) (hfam : s.family = .adc24) :
    IssuesChained s (bodyInit24 u) :=
  .of_orIoError (h.after_preamble24 hfam) fun _ _ h => .of_orIoError (h.after_preamble24 hfam) fun _ _ h => h.congr

theorem IssuesChained.after_bodySetavg (h : IssuesChained s u) (hfam : s.family = .adc20) (ratio : Byte) :
    IssuesChained s (bodySetavg ratio u) := by
  unfold bodySetavg
  split
  · exact .of_orIoError (h.after_regWrite20 hfam ..) fun _ _ h => h.congr
  · exact h.after_raise _

theorem IssuesChained.after_bodySman20 (h : IssuesChained s u) (hfam : s.family = .adc20) (ch : Byte) :
    IssuesChained s (bodySman20 ch u) := by
  unfold bodySman20
  split
  · have hmanual : IssuesChained s { u with st := .manual } := h.congr
    refine .of_orIoError (hmanual.after_regWrite20 hfam ..) fun _ _ h =>
      .of_orIoError (h.after_cycle20 hfam) fun _ _ h => .of_orIoError (h.after_frame20 hfam) fun _ fr h => ?_
    split
    · exact h.congr
    · exact h.after_raise _
  · exact h.after_raise _

theorem IssuesChained.after_bodySman24 (h : IssuesChained s u) (hfam : s.family = .adc24) (ch : Byte) :
    IssuesChained s (bodySman24 ch u) := by
  unfold bodySman24
  split
  · have hmanual : IssuesChained s
        (latchCw (channelWord u.cfg.baseManual (ch.extractLsb' 0 4)) { u with st := .manual }) := h.congr
    exact .of_orIoError (hmanual.after_ctlWrite24 hfam _) fun _ _ h =>
      .of_orIoError (h.after_frame24 hfam) fun _ _ h => h.congr
  · exact h.after_raise _

theorem IssuesChained.after_readLoop20 (h : IssuesChained s u) (hfam : s.family = .adc20) (n : Nat) (i : Byte) :
    IssuesChained s (readLoop20 n i u) := by
  induction n generalizing i u with
  | zero => exact h
  | succ n ih =>
    have hread := h.after_frame20 hfam
    rcases hframe : frame20 u with ⟨v, _ | fr⟩ <;> rw [hframe] at hread <;>
      simp only [readLoop20, hframe]
    case none => exact hread.congr
    case some =>
      split
      · exact ih hread.congr _
      · exact hread.congr

theorem IssuesChained.after_startAndRead20 (h : IssuesChained s u) (hfam : s.family = .adc20) (count : Byte) :
    IssuesChained s (startAndRead20 count u) := by
  have hwrite := h.after_regWrite20 hfam u.cfg.regSeqMode u.cfg.valSeqStart
  unfold startAndRead20
  split <;> rename_i hstart <;> rw [hstart] at hwrite
  · exact hwrite.congr
  · exact hwrite.after_readLoop20 hfam ..

theorem IssuesChained.after_stopWrite20 (h : IssuesChained s u) (hfam : s.family = .adc20) :
    IssuesChained s (stopWrite20 u) := by
  rw [stopWrite20_eq]
  exact (h.after_regWrite20 hfam ..).congr

theorem IssuesChained.after_endSequence20 (h : IssuesChained s u) (count : Byte) :
    IssuesChained s (endSequence20 count u) := by
  unfold endSequence20
  split
  · exact h.congr
  · exact h.after_raise _

theorem IssuesChained.after_bodySseq20 (h : IssuesChained s u) (hfam : s.family = .adc20) (stop count : Byte) :
    IssuesChained s (bodySseq20 stop count u) := by
  unfold bodySseq20
  split
  · split
    · have hmask : IssuesChained s
          (latchMask (seqMask stop.toNat) { u with st := .sequencing, pend := .ok }) := h.congr
      exact .of_orIoError (hmask.after_regWrite20 hfam ..) fun _ _ h =>
        ((h.after_startAndRead20 hfam _).after_stopWrite20 hfam).after_endSequence20 _
    · exact h.after_raise _
  · exact h.after_raise _

theorem IssuesChained.after_readLoop24 (h : IssuesChained s u) (hfam : s.family = .adc24) (n : Nat) (i : Byte) :
    IssuesChained s (readLoop24 n i u).1 := by
  induction n generalizing i u with
  | zero => exact h
  | succ n ih =>
    have hread := h.after_frame24 hfam
    rcases hframe : frame24 u with ⟨v, _ | fr⟩ <;> rw [hframe] at hread <;>
      simp only [readLoop24, hframe]
    case none => exact hread
    case some => exact ih hread.congr _

theorem IssuesChained.after_bodySseq24 (h : IssuesChained s u) (hfam : s.family = .adc24) (stop count : Byte) :
    IssuesChained s (bodySseq24 stop count u) := by
  unfold bodySseq24
  split
  · split
    · have hcontrol : IssuesChained s
          (latchCw (channelWord u.cfg.baseSeq (stop.extractLsb' 0 4)) { u with st := .sequencing }) := h.congr
      exact .of_orIoError (hcontrol.after_ctlWrite24 hfam _) fun _ _ h =>
        .of_orIoError (h.after_readLoop24 hfam ..) fun _ _ h => h.congr
    · exact h.after_raise _
  · exact h.after_raise _

theorem IssuesChained.after_bodySseqStop (h : IssuesChained s u) (stop : Byte) :
    IssuesChained s (bodySseqStop stop u) := by
  unfold bodySseqStop
  split <;> rename_i hfam <;> rw [h.family_eq] at hfam
  · exact h.after_bodySseq20 hfam ..
  · exact h.after_bodySseq24 hfam ..

/-! ### Every command, and every wire-frame row -/

/-- A command that the block has the row of: TOMV and CHKID only complete, and the rows left have no body. -/
theorem IssuesChained.after_commandBody {i : Instr} (h : IssuesChained s u) (hlegal : rowLegal i s.family = true) :
    IssuesChained s (commandBody i u) := by
  cases i with
  | init20 chid => exact h.after_bodyInit20 (family_of_rowLegal rfl hlegal) chid
  | init24 => exact h.after_bodyInit24 (family_of_rowLegal rfl hlegal)
  | setavg ratio | modecfgRatio ratio => exact h.after_bodySetavg (family_of_rowLegal rfl hlegal) ratio
  | sman20 ch => exact h.after_bodySman20 (family_of_rowLegal rfl hlegal) ch
  | sman24 ch => exact h.after_bodySman24 (family_of_rowLegal rfl hlegal) ch
  | sseq20 stop count => exact h.after_bodySseq20 (family_of_rowLegal rfl hlegal) stop count
  | sseq24 stop count => exact h.after_bodySseq24 (family_of_rowLegal rfl hlegal) stop count
  | sseqStop stop => exact h.after_bodySseqStop stop
  | wreg addr value => exact h.after_bodyWreg (family_of_rowLegal rfl hlegal) addr value
  | rreg addr | readraw addr => exact h.after_bodyRreg (family_of_rowLegal rfl hlegal) addr
  | wctl word12 | modecfgWord12 word12 => exact h.after_bodyWctl (family_of_rowLegal rfl hlegal) word12
  | tomv _ _ | chkid _ _ => exact h.congr
  | _ => exact h

/-- The exchanges of a command, said once. -/
theorem exec_issuesChained {i : Instr} {t : State} (hk : i.kind ≠ .wireFrame) (h : exec i s = .next t) :
    IssuesChained s t := by
  rw [exec_eq_command hk] at h
  have haccept : IssuesChained s (accept (encodeWord i) s) := (IssuesChained.start s).congr
  obtain ⟨-, ⟨hlegal, rfl⟩ | ⟨-, rfl⟩⟩ := command_next h
  · exact haccept.after_commandBody hlegal
  · exact haccept.after_raise _

/-- A transmit row issues its one exchange; its failure raises IoError, which issues nothing. -/
theorem issues_exchangeOnly {tx : List Byte} {hold : Bool}
    (hshape : ∀ rx, shapeOk s.cfg s.family { tx := tx, hold := hold, rx := rx } = true) :
    ∃ evs, Issues s evs (exchangeOnly (xchg tx hold s)) :=
  have hone := (Issues.start s).after_xchg hshape
  ⟨_, orIoError_keeps (P := Issues s _) (hone.after_raise .ioError) fun _ _ => hone⟩

/-- A wire-frame row issues at most one exchange, of its own shape (log 8). -/
theorem issues_wireBody {i : Instr} (hk : i.kind = .wireFrame) (hfam : i.onFamily s.family = true) :
    ∃ evs, Issues s evs (wireBody i s) := by
  cases i with
  | w20 addr value => exact issues_exchangeOnly (shapeOk_writeEvent (of_decide_eq_true hfam) addr value)
  | r20a addr => exact issues_exchangeOnly (shapeOk_readFirstEvent (of_decide_eq_true hfam) addr)
  | r20b => exact issues_exchangeOnly (shapeOk_readSecondEvent (of_decide_eq_true hfam))
  | f20 => exact issues_exchangeOnly (shapeOk_cycleEvent (of_decide_eq_true hfam))
  | c24 cw => exact issues_exchangeOnly (shapeOk_controlEvent (of_decide_eq_true hfam) cw)
  | p24 => exact issues_exchangeOnly (shapeOk_preambleEvent (of_decide_eq_true hfam))
  | f24 => exact issues_exchangeOnly (shapeOk_transferEvent (of_decide_eq_true hfam))
  | f20Rx12 _ _ _ | f20Rx16 _ _ _ | f24Rx _ _ | cw12Manual _ | cw12Seq _ | mask20 _ =>
    exact ⟨[], (Issues.start s).congr⟩
  | _ => cases hk

theorem exec_issues {i : Instr} {t : State} (h : exec i s = .next t) : ∃ evs, Issues s evs t := by
  by_cases hk : i.kind = .wireFrame
  · obtain ⟨fam, hrow, hexec⟩ := exec_eq_primitive hk
    obtain ⟨hfam, rfl⟩ := primitive_next ((hexec s).symm.trans h)
    exact issues_wireBody hk ((hrow s.family).trans (decide_eq_true hfam))
  · obtain ⟨evs, hissues, -⟩ := exec_issuesChained hk h
    exact ⟨evs, hissues⟩

end Issues

/-! ### The statements -/

/-- Settles O21: every row issues a list of exchanges that meet R51 and R54 one by one. -/
theorem onlyListedShapesAreIssued : Obligations.OnlyListedShapesAreIssued := by
  unfold Obligations.OnlyListedShapesAreIssued
  intro i s t h
  obtain ⟨evs, hissues⟩ := exec_issues h
  rw [hissues.newEvents_eq]
  exact ⟨hissues.trace, hissues.listed⟩

/-- Settles O22: only RegRead20 holds chip-select, and it releases at once what was answered. -/
theorem heldReadsAreChained : Obligations.HeldReadsAreChained := by
  unfold Obligations.HeldReadsAreChained
  intro i s t hk h
  obtain ⟨evs, hissues, hchained⟩ := exec_issuesChained hk h
  rw [hissues.newEvents_eq]
  exact ⟨hchained, endsOnHeldRead_of_chainedReadsOk hchained⟩

end Sys2Proof.Machine

/-! PROOFS for spec/40_register_protocol_adc20.md: WREG and RREG, also named READRAW (R120 to R125). A command in
progress that has delivered no record is the state `underway` of its word and the events so far: an exchange adds its
event, with the answer that `gets` says the oracle gives it, and `finish` and `raise` turn the state into `completed`. -/

namespace Sys2Proof.Machine

/-! ### A command that has delivered no record -/

/-- `s` after it accepted the word `w` and issued the exchanges `evs`, with no record delivered. -/
def underway (s : State) (w : Word) (evs : List Event) : State :=
  { s with
    busy := true, opw := w, stepNo := BitVec.ofNat 8 evs.length, idx := 0, pend := .ok
    trace := s.trace ++ evs, answers := s.answers.drop evs.length
    lat := { s.lat with rx := lastRx s.lat.rx evs } }

section Underway
variable {s : State} {w : Word} {done es : List Event} {e : Event}

theorem accept_eq_underway (w : Word) (s : State) : accept w s = underway s w [] := by
  simp [accept, underway, lastRx]

theorem lastRx_append_singleton (d : List Byte) (es : List Event) (e : Event) :
    lastRx d (es ++ [e]) = e.rx.getD (lastRx d es) := by
  induction es generalizing d with
  | nil => rfl
  | cons _ es ih => exact ih _

theorem recordExchange_underway (s : State) (w : Word) (done : List Event) (e : Event) :
    recordExchange e.tx e.hold e.rx (underway s w done) = underway s w (done ++ [e]) := by
  simp [recordExchange, underway, lastRx_append_singleton, BitVec.ofNat_add]

/-- What `ask` says of the oracle is what the command's next exchange is given (R54). -/
theorem xchg_underway (hask : ask s done e.tx e.hold = e.rx) :
    xchg e.tx e.hold (underway s w done) = (underway s w (done ++ [e]), e.rx) := by
  have hrx : (xchg e.tx e.hold (underway s w done)).2 = e.rx := hask
  exact Prod.ext (by rw [xchg_fst, hrx, recordExchange_underway]) hrx

theorem orIoError_xchg_answered {rx : List Byte} (hask : ask s done e.tx e.hold = e.rx) (hrx : e.rx = some rx)
    (k : State → List Byte → State) :
    orIoError (xchg e.tx e.hold (underway s w done)) k = k (underway s w (done ++ [e])) rx := by
  rw [xchg_underway hask, hrx, orIoError_some]

theorem orIoError_xchg_failed (hask : ask s done e.tx e.hold = e.rx) (hrx : e.rx = none)
    (k : State → List Byte → State) :
    orIoError (xchg e.tx e.hold (underway s w done)) k = raise .ioError (underway s w (done ++ [e])) := by
  rw [xchg_underway hask, hrx, orIoError_none]

theorem finish_underway (status : Status) (result : Word) (s : State) (w : Word) (evs : List Event) :
    finish status result 0 (underway s w evs) = completed s w status result evs [] := by
  simp [finish, underway, completed]

/-- R216: an IoError ends the session and completes the command. -/
theorem raise_ioError_underway (s : State) (w : Word) (evs : List Event) :
    raise .ioError (underway s w evs) = lostSession (completed s w .ioError 0 evs []) := by
  rw [← finish_underway]
  rfl

theorem getsAfter_cons :
    getsAfter s done (e :: es) = true ↔ ask s done e.tx e.hold = e.rx ∧ getsAfter s (done ++ [e]) es = true := by
  simp [getsAfter]

/-- What the oracle answers to a whole run of exchanges, from its first one on. -/
theorem gets_cons : gets s (e :: es) = true ↔ ask s [] e.tx e.hold = e.rx ∧ getsAfter s [e] es = true :=
  getsAfter_cons

/-- An answered exchange received as many bytes as it sent (R51). -/
theorem ask_length {tx rx : List Byte} {hold : Bool} (h : ask s done tx hold = some rx) : rx.length = tx.length :=
  received_length h

end Underway

/-- A command row that the block has, presented between commands, runs its body. -/
theorem exec_eq_commandBody {i : Instr} {s : State} (hk : i.kind ≠ .wireFrame) (hbusy : s.busy = false)
    (hlegal : rowLegal i s.family = true) :
    exec i s = .next (commandBody i (underway s (encodeWord i) [])) := by
  rw [exec_eq_command hk, command_idle _ _ _ hbusy, if_pos hlegal, accept_eq_underway]

/-- Only an idle block that has the row completes it OK. -/
theorem idle_and_legal_of_ok {i : Instr} {s t : State} (hk : i.kind ≠ .wireFrame) (h : exec i s = .next t)
    (hok : t.status = .ok) : s.busy = false ∧ rowLegal i s.family = true := by
  rw [exec_eq_command hk] at h
  obtain ⟨hbusy, ⟨hlegal, -⟩ | ⟨-, rfl⟩⟩ := command_next h
  · exact ⟨hbusy, hlegal⟩
  · cases hok

/-! ### The register write (R121, R122) -/

section Write
variable {s : State} {w : Word} {addr value : Byte}

theorem bodyWreg_answered {rx : List Byte} (h : gets s [writeEvent s.cfg addr value (some rx)] = true) :
    bodyWreg addr value (underway s w []) = completed s w .ok 0 [writeEvent s.cfg addr value (some rx)] [] := by
  obtain ⟨hask, -⟩ := gets_cons.1 h
  exact (orIoError_xchg_answered hask rfl _).trans (finish_underway ..)

theorem bodyWreg_failed (h : gets s [writeEvent s.cfg addr value none] = true) :
    bodyWreg addr value (underway s w []) =
      lostSession (completed s w .ioError 0 [writeEvent s.cfg addr value none] []) := by
  obtain ⟨hask, -⟩ := gets_cons.1 h
  exact (orIoError_xchg_failed hask rfl _).trans (raise_ioError_underway ..)

end Write

/-- Settles O26: the body is the one write, which is answered and finishes the command, or fails and raises IoError. -/
theorem wregIssuesOneWrite : Obligations.WregIssuesOneWrite := by
  unfold Obligations.WregIssuesOneWrite
  intro s addr value rx hbusy hfam hgets
  rw [exec_eq_commandBody (by simp [Instr.kind]) hbusy (by rw [hfam]; rfl)]
  cases rx with
  | some rx => exact congrArg _ (bodyWreg_answered hgets)
  | none => exact congrArg _ (bodyWreg_failed hgets)

/-! ### The register read (R123, R124) -/

section Read
variable {s : State} {w : Word} {addr : Byte}

/-- Decision D8: after an answered first exchange the read goes on to the second. -/
theorem bodyRreg_first_answered {first : List Byte}
    (hfirst : ask s [] [s.cfg.readCmd, addr, s.cfg.dummy] true = some first) :
    bodyRreg addr (underway s w []) =
      orIoError (regReadSecond (underway s w [readFirstEvent s.cfg addr (some first)])) fun u rx =>
        finish .ok ((rx.getD 0 0).setWidth 32) 0 u :=
  orIoError_xchg_answered (e := readFirstEvent s.cfg addr (some first)) hfirst rfl _

theorem bodyRreg_answered {first second : List Byte}
    (h : gets s [readFirstEvent s.cfg addr (some first), readSecondEvent s.cfg (some second)] = true) :
    bodyRreg addr (underway s w []) =
      completed s w .ok ((second.getD 0 0).setWidth 32)
        [readFirstEvent s.cfg addr (some first), readSecondEvent s.cfg (some second)] [] := by
  obtain ⟨hfirst, hrest⟩ := gets_cons.1 h
  obtain ⟨hsecond, -⟩ := getsAfter_cons.1 hrest
  rw [bodyRreg_first_answered hfirst]
  exact (orIoError_xchg_answered hsecond rfl _).trans (finish_underway ..)

theorem bodyRreg_second_failed {first : List Byte}
    (h : gets s [readFirstEvent s.cfg addr (some first), readSecondEvent s.cfg none] = true) :
    bodyRreg addr (underway s w []) =
      lostSession (completed s w .ioError 0
        [readFirstEvent s.cfg addr (some first), readSecondEvent s.cfg none] []) := by
  obtain ⟨hfirst, hrest⟩ := gets_cons.1 h
  obtain ⟨hsecond, -⟩ := getsAfter_cons.1 hrest
  rw [bodyRreg_first_answered hfirst]
  exact (orIoError_xchg_failed hsecond rfl _).trans (raise_ioError_underway ..)

/-- Decision D32: after a failed first exchange the second is not issued. -/
theorem bodyRreg_first_failed (h : gets s [readFirstEvent s.cfg addr none] = true) :
    bodyRreg addr (underway s w []) =
      lostSession (completed s w .ioError 0 [readFirstEvent s.cfg addr none] []) := by
  obtain ⟨hfirst, -⟩ := gets_cons.1 h
  exact (orIoError_xchg_failed hfirst rfl _).trans (raise_ioError_underway ..)

/-- R92: READRAW is another name of RREG, so both run the one body. -/
theorem exec_read_eq {i : Instr} (hi : i = .rreg addr ∨ i = .readraw addr) (hbusy : s.busy = false)
    (hfam : s.family = .adc20) : exec i s = .next (bodyRreg addr (underway s (encodeWord i) [])) := by
  obtain rfl | rfl := hi <;> exact exec_eq_commandBody (by simp [Instr.kind]) hbusy (by rw [hfam]; rfl)

end Read

/-- Settles O27: the two names share one body, which runs to one of three ends by what its exchanges are answered. -/
theorem rregReadsTheSecondByte : Obligations.RregReadsTheSecondByte := by
  unfold Obligations.RregReadsTheSecondByte
  intro s i addr hi hbusy hfam
  rw [exec_read_eq hi hbusy hfam]
  constructor
  · exact fun first v hgets => congrArg _ (bodyRreg_answered hgets)
  · rintro first evs (rfl | rfl) hgets
    · exact congrArg _ (bodyRreg_second_failed hgets)
    · exact congrArg _ (bodyRreg_first_failed hgets)

/-! ### The round trip on an echoing Transport (R125) -/

section RoundTrip
variable {i : Instr} {s t : State} {addr value : Byte}

/-- A run that ended in IoError did not complete OK. -/
theorem status_ne_ok_of_ioError {w : Word} {evs : List Event} (h : exec i s = .next t)
    (hfailed : exec i s = .next (lostSession (completed s w .ioError 0 evs []))) : t.status ≠ .ok := by
  rw [h] at hfailed
  cases hfailed
  nofun

/-- A WREG that completed OK had its one write answered. -/
theorem wreg_ok_eq (h : exec (.wreg addr value) s = .next t) (hok : t.status = .ok) :
    ∃ rx, t = completed s (encodeWord (.wreg addr value)) .ok 0 [writeEvent s.cfg addr value (some rx)] [] := by
  obtain ⟨hbusy, hlegal⟩ := idle_and_legal_of_ok (by simp [Instr.kind]) h hok
  have hexec rx (hask : ask s [] [s.cfg.writeCmd, addr, value] false = rx) :=
    wregIssuesOneWrite s addr value rx hbusy (family_of_rowLegal rfl hlegal) (gets_cons.2 ⟨hask, rfl⟩)
  cases hask : ask s [] [s.cfg.writeCmd, addr, value] false with
  | none => exact absurd hok (status_ne_ok_of_ioError h (hexec none hask))
  | some rx => exact ⟨rx, Host.Outcome.next.inj (h.symm.trans (hexec (some rx) hask))⟩

/-- An RREG that completed OK had both its exchanges answered, and RESULT is the byte of the second. -/
theorem rreg_ok_eq (h : exec (.rreg addr) s = .next t) (hok : t.status = .ok) :
    ∃ first byte, t = completed s (encodeWord (.rreg addr)) .ok (byte.setWidth 32)
      [readFirstEvent s.cfg addr (some first), readSecondEvent s.cfg (some [byte])] [] := by
  obtain ⟨hbusy, hlegal⟩ := idle_and_legal_of_ok (by simp [Instr.kind]) h hok
  obtain ⟨hread, hfailed⟩ :=
    rregReadsTheSecondByte s (.rreg addr) addr (.inl rfl) hbusy (family_of_rowLegal rfl hlegal)
  cases hfirst : ask s [] [s.cfg.readCmd, addr, s.cfg.dummy] true with
  | none =>
    have hgets : gets s [readFirstEvent s.cfg addr none] = true := gets_cons.2 ⟨hfirst, rfl⟩
    exact absurd hok (status_ne_ok_of_ioError h (hfailed [] _ (.inr rfl) hgets))
  | some first =>
    have hgets second (hsecond : ask s [readFirstEvent s.cfg addr (some first)] [s.cfg.dummy] false = second) :
        gets s [readFirstEvent s.cfg addr (some first), readSecondEvent s.cfg second] = true :=
      gets_cons.2 ⟨hfirst, getsAfter_cons.2 ⟨hsecond, rfl⟩⟩
    cases hsecond : ask s [readFirstEvent s.cfg addr (some first)] [s.cfg.dummy] false with
    | none => exact absurd hok (status_ne_ok_of_ioError h (hfailed first _ (.inl rfl) (hgets none hsecond)))
    | some second =>
      obtain ⟨byte, rfl⟩ := List.length_eq_one_iff.1 (ask_length hsecond)
      exact ⟨first, byte, Host.Outcome.next.inj (h.symm.trans (hread first byte (hgets _ hsecond)))⟩

end RoundTrip

/-- Settles O28: the write is the last event before the read, so its value is what the echoing chip is known to hold
and what it answers to the second exchange of the read. -/
theorem writtenRegisterReadsBack : Obligations.WrittenRegisterReadsBack := by
  unfold Obligations.WrittenRegisterReadsBack
  intro s t u addr v hwrite hwriteOk hread hreadOk hechoes
  obtain ⟨rx, rfl⟩ := wreg_ok_eq hwrite hwriteOk
  obtain ⟨first, byte, rfl⟩ := rreg_ok_eq hread hreadOk
  have hknown : lastWritten s.cfg addr (s.trace ++ [writeEvent s.cfg addr v (some rx)]) = some v := by simp
  have hecho : [byte] = [v] :=
    hechoes _ [] addr v (readFirstEvent s.cfg addr (some first)) (readSecondEvent s.cfg (some [byte])) rfl rfl rfl rfl
      rfl rfl hknown _ rfl
  exact congrArg (BitVec.setWidth 32) (List.singleton_inj.1 hecho)

end Sys2Proof.Machine

/-! PROOFS for spec/41_register_protocol_adc24.md: WCTL, also named MODECFG (R131, R132), and the sample of SMAN on a
chip that obeys the pipeline (R133, R134). A 16-bit frame and its two bytes determine each other, and a command that
completed OK had every exchange on its way answered, so each step of its body is known. -/

namespace Sys2Proof.Machine

/-! ### A frame and its two bytes (R58) -/

@[simp] theorem rxFrame_frameBytes (f : Half) : rxFrame (frameBytes f) = f := pairFrame_frameBytes f

/-- A value placed in a field of `n` bits, as a number. -/
theorem toNat_place (n lo : Nat) {width : Nat} (x : BitVec width) :
    (place n lo x).toNat = x.toNat * 2 ^ lo % 2 ^ n := by
  simp [place, Nat.shiftLeft_eq]

/-- Most significant byte first, as a number. -/
theorem toNat_pairFrame (r1 r2 : Byte) : (pairFrame r1 r2).toNat = r1.toNat * 256 + r2.toNat := by
  have hr1 := r1.isLt
  have hr2 := r2.isLt
  have hhigh : (place 16 8 r1).toNat = r1.toNat <<< 8 := by
    rw [toNat_place, Nat.shiftLeft_eq]
    omega
  have hlow : (place 16 0 r2).toNat = r2.toNat := by
    rw [toNat_place]
    omega
  rw [pairFrame, BitVec.toNat_or, hhigh, hlow, ← Nat.shiftLeft_add_eq_or_of_lt hr2, Nat.shiftLeft_eq]

theorem frameBytes_pairFrame (r1 r2 : Byte) : frameBytes (pairFrame r1 r2) = [r1, r2] := by
  have hr1 := r1.isLt
  have hr2 := r2.isLt
  have hhigh : (pairFrame r1 r2).extractLsb' 8 8 = r1 := by
    apply BitVec.eq_of_toNat_eq
    rw [BitVec.extractLsb'_toNat, toNat_pairFrame, Nat.shiftRight_eq_div_pow]
    omega
  have hlow : (pairFrame r1 r2).extractLsb' 0 8 = r2 := by
    apply BitVec.eq_of_toNat_eq
    rw [BitVec.extractLsb'_toNat, toNat_pairFrame, Nat.shiftRight_zero]
    omega
  rw [frameBytes, hhigh, hlow]

/-! ### The control frame (R101, R102) -/

/-- Neither value of CW_SHIFT shifts a bit of the control word out of the frame. -/
theorem toNat_controlFrame (shift : CwShift) (cw : BitVec 12) :
    (controlFrame shift cw).toNat = cw.toNat * 2 ^ shift.amount := by
  have hcw := cw.isLt
  rw [controlFrame, toNat_place]
  cases shift <;> simp only [CwShift.amount] <;> omega

theorem frameBytes_controlFrame {shift : CwShift} {cw : BitVec 12} {b1 b2 : Byte}
    (h : b1.toNat * 256 + b2.toNat = cw.toNat * 2 ^ shift.amount) :
    frameBytes (controlFrame shift cw) = [b1, b2] := by
  have hframe : controlFrame shift cw = pairFrame b1 b2 :=
    BitVec.eq_of_toNat_eq (by rw [toNat_controlFrame, toNat_pairFrame, h])
  rw [hframe, frameBytes_pairFrame]

/-- The field of a legal channel holds the whole channel. -/
theorem channelWord_of_le {ch : Byte} (base : BitVec 12) (hch : ch.toNat ≤ 15) :
    channelWord base (ch.extractLsb' 0 4) = base ||| BitVec.ofNat 12 (ch.toNat * 64) := by
  have hfield : place 12 6 (ch.extractLsb' 0 4) = BitVec.ofNat 12 (ch.toNat * 64) := by
    apply BitVec.eq_of_toNat_eq
    rw [toNat_place, BitVec.extractLsb'_toNat, Nat.shiftRight_zero, BitVec.toNat_ofNat]
    omega
  rw [channelWord, hfield]

/-! ### WCTL (R131, R132) -/

section Write
variable {s : State} {w : Word} {word12 : BitVec 12}

theorem bodyWctl_answered {rx : List Byte} (h : gets s [controlEvent s.cfg word12 (some rx)] = true) :
    bodyWctl word12 (underway s w []) =
      completed s w .ok ((rxFrame rx).setWidth 32) [controlEvent s.cfg word12 (some rx)] [] := by
  obtain ⟨hask, -⟩ := gets_cons.1 h
  exact (orIoError_xchg_answered hask rfl _).trans (finish_underway ..)

theorem bodyWctl_failed (h : gets s [controlEvent s.cfg word12 none] = true) :
    bodyWctl word12 (underway s w []) =
      lostSession (completed s w .ioError 0 [controlEvent s.cfg word12 none] []) := by
  obtain ⟨hask, -⟩ := gets_cons.1 h
  exact (orIoError_xchg_failed hask rfl _).trans (raise_ioError_underway ..)

/-- R92: MODECFG with a control word is another name of WCTL, so both run the one body. -/
theorem exec_control_eq {i : Instr} (hi : i = .wctl word12 ∨ i = .modecfgWord12 word12) (hbusy : s.busy = false)
    (hfam : s.family = .adc24) : exec i s = .next (bodyWctl word12 (underway s (encodeWord i) [])) := by
  obtain rfl | rfl := hi <;> exact exec_eq_commandBody (by simp [Instr.kind]) hbusy (by rw [hfam]; rfl)

end Write

/-- Settles O29: the bytes are those of the control frame, so the body's one exchange is the event of the statement;
answered, its frame is RESULT, and failed, it raises IoError. -/
theorem wctlSendsTheShiftedWord : Obligations.WctlSendsTheShiftedWord := by
  unfold Obligations.WctlSendsTheShiftedWord
  intro s i word12 hi hbusy hfam b1 b2 hbytes
  have htx : frameBytes (controlFrame s.cfg.cwShift word12) = [b1, b2] := by
    apply frameBytes_controlFrame
    cases hshift : s.cfg.cwShift <;> rw [hshift] at hbytes <;> exact hbytes
  have hevent (rx : Option (List Byte)) :
      controlEvent s.cfg word12 rx = { tx := [b1, b2], hold := false, rx := rx } := by
    rw [controlEvent, htx]
  simp only [← hevent, exec_control_eq hi hbusy hfam]
  constructor
  · intro r1 r2 hgets
    refine ⟨_, rfl, bodyWctl_answered hgets ▸ rfl, ?_⟩
    have hframe : (rxFrame [r1, r2]).toNat = r1.toNat * 256 + r2.toNat := toNat_pairFrame r1 r2
    rw [bodyWctl_answered hgets, ← hframe]
    exact BitVec.toNat_setWidth_of_le (by decide)
  · exact fun hgets => congrArg _ (bodyWctl_failed hgets)

/-! ### SMAN after its control word (R133, R134, R175) -/

/-- What completed OK went on after its exchange, so the exchange was answered (R212). -/
theorem answered_of_ok {α : Type} {r : State × Option α} {k : State → α → State} {t : State}
    (ht : orIoError r k = t) (hok : t.status = .ok) : ∃ a, r.2 = some a ∧ k r.1 a = t := by
  obtain ⟨-, hfail⟩ | ⟨a, ha, hnext⟩ := orIoError_cases r k
  · rw [← ht, hfail] at hok
    cases hok
  · exact ⟨a, ha, hnext.symm.trans ht⟩

/-- An answered transfer, decoded: what Frame24 latches and gives. -/
theorem frame24_some {s : State} {fr : Frame} (h : (frame24 s).2 = some fr) :
    ∃ rx, (frame24 s).1 = latchFrame fr (recordExchange (frameBytes s.cfg.readTx) false (some rx) s) ∧
      fr = decodeFrame24 (rxFrame rx) := by
  obtain ⟨-, hframe⟩ | ⟨rx, hrx, hframe⟩ := frame24_cases s <;> rw [hframe] at h ⊢ <;> cases h
  exact ⟨rx, by rw [← hrx]; rfl, rfl⟩

/-- An SMAN that completed OK issued its control write and one transfer, both answered, and RAW is the code of the
second frame. -/
theorem sman24_ok {s t : State} {ch : Byte} (h : exec (.sman24 ch) s = .next t) (hok : t.status = .ok) :
    ∃ stale rx, t.raw = signExt24 ((rxFrame rx).extractLsb' 0 12) ∧
      t.trace = s.trace ++
        [controlEvent s.cfg (s.cfg.baseManual ||| BitVec.ofNat 12 (ch.toNat * 64)) (some stale),
          transferEvent s.cfg (some rx)] := by
  obtain ⟨hbusy, hlegal⟩ := idle_and_legal_of_ok (by simp [Instr.kind]) h hok
  rw [exec_eq_command (by simp [Instr.kind]), command_idle _ _ _ hbusy, if_pos hlegal, commandBody, bodySman24] at h
  have ht := Host.Outcome.next.inj h
  split at ht
  case isFalse =>
    subst ht
    cases hok
  case isTrue hch =>
    rw [channelWord_of_le _ ((channelLegal_iff _ ch).1 hch)] at ht
    obtain ⟨stale, hstale, ht⟩ := answered_of_ok ht hok
    obtain ⟨fr, hfr, ht⟩ := answered_of_ok ht hok
    obtain ⟨rx, hread, rfl⟩ := frame24_some hfr
    rw [hread] at ht
    subst ht
    refine ⟨stale, rx, rfl, ?_⟩
    rw [← hstale]
    exact List.append_assoc ..

/-- R133 at the end of a trace: the frame after an answered control write is the conversion of its word. -/
theorem FollowsControlWord.frame_after_control {cfg : Cfg} {conv : Nat → BitVec 12 → Half} {cw : BitVec 12}
    {before : List Event} {stale rx : List Byte}
    (h : FollowsControlWord cfg conv
      (before ++ [controlEvent cfg cw (some stale), transferEvent cfg (some rx)])) :
    rx = frameBytes (conv (before.length + 1) cw) :=
  h before.length (controlEvent cfg cw (some stale)) (transferEvent cfg (some rx)) cw (by simp) (by simp) rfl rfl rx rfl

/-- Settles O37: SMAN's transfer is the exchange right after its control write, so the frame it delivers is the
conversion of its own control word. -/
theorem pipelinedSampleIsOfItsChannel : Obligations.PipelinedSampleIsOfItsChannel := by
  unfold Obligations.PipelinedSampleIsOfItsChannel
  intro s t ch conv h hok hfollows
  obtain ⟨stale, rx, hraw, htrace⟩ := sman24_ok h hok
  rw [htrace] at hfollows
  rw [hraw, hfollows.frame_after_control, rxFrame_frameBytes]

end Sys2Proof.Machine

/-! PROOFS for spec/42_acquisition_adc20.md: INIT, SETAVG, SMAN and SSEQ on ADC20 (R140 to R155). A sampling command in
progress is the state `acquiring` of its word, the events and the records so far: an exchange adds its event, `emit`
adds its record, and what else the command sets (ST, PEND, the latches) is set in the state it started from. The
sequence of frames is followed by an induction on the frames, from which each end of SSEQ is read off. What every SSEQ
issues, whatever it is answered, is `SequenceEvents`, from which its start and stop writes are counted. -/

namespace Sys2Proof.Machine

/-! ### INIT (R145) -/

/-- Settles O30: the body is three writes; the state that `finish` completes is the one underway with CHID_EN, ST and
INITED set in the state it started from, and the first write that fails raises IoError. -/
theorem init20WritesThreeRegisters : Obligations.Init20WritesThreeRegisters := by
  unfold Obligations.Init20WritesThreeRegisters
  intro s chid hbusy hfam w1 w2 w3 w
  rw [exec_eq_commandBody (by simp [Instr.kind]) hbusy (by rw [hfam]; rfl)]
  constructor
  · intro a b c hgets
    obtain ⟨h1, hrest⟩ := gets_cons.1 hgets
    obtain ⟨h2, hrest⟩ := getsAfter_cons.1 hrest
    obtain ⟨h3, -⟩ := getsAfter_cons.1 hrest
    exact congrArg _ <| (orIoError_xchg_answered h1 rfl _).trans <| (orIoError_xchg_answered h2 rfl _).trans <|
      (orIoError_xchg_answered h3 rfl _).trans <|
      finish_underway .ok 0 { s with chidEn := chid, st := .configured, inited := true } ..
  · rintro a b evs (rfl | rfl | rfl) hgets <;> obtain ⟨h1, hrest⟩ := gets_cons.1 hgets
    · exact congrArg _ <| (orIoError_xchg_failed h1 rfl _).trans (raise_ioError_underway ..)
    · obtain ⟨h2, -⟩ := getsAfter_cons.1 hrest
      exact congrArg _ <| (orIoError_xchg_answered h1 rfl _).trans <|
        (orIoError_xchg_failed h2 rfl _).trans (raise_ioError_underway ..)
    · obtain ⟨h2, hrest⟩ := getsAfter_cons.1 hrest
      obtain ⟨h3, -⟩ := getsAfter_cons.1 hrest
      exact congrArg _ <| (orIoError_xchg_answered h1 rfl _).trans <| (orIoError_xchg_answered h2 rfl _).trans <|
        (orIoError_xchg_failed h3 rfl _).trans (raise_ioError_underway ..)

/-! ### SETAVG (R146) -/

section Setavg
variable {s : State} {w : Word} {ratio : Byte}

/-- R211, R212: a rejected argument leaves ST and INITED, and no exchange is issued. -/
theorem raise_invalidArgument_underway (s : State) (w : Word) (evs : List Event) :
    raise .invalidArgument (underway s w evs) = completed s w .invalidArgument 0 evs [] :=
  finish_underway ..

theorem bodySetavg_legal (hratio : ratio.toNat ≤ 7) (u : State) :
    bodySetavg ratio u = orIoError (regWrite20 u.cfg.regOsr ratio u) fun v _ =>
      finish .ok 0 0 { v with osr := ratio.setWidth 3 } := by
  rw [bodySetavg, if_pos ((ratioLegal_iff ratio).2 hratio), BitVec.setWidth_eq_extractLsb' (by decide)]

theorem bodySetavg_illegal (hratio : 7 < ratio.toNat) (u : State) :
    bodySetavg ratio u = raise .invalidArgument u :=
  if_neg fun h => Nat.not_le.2 hratio ((ratioLegal_iff ratio).1 h)

/-- R92: MODECFG with a ratio is another name of SETAVG, so both run the one body. -/
theorem exec_setavg_eq {i : Instr} (hi : i = .setavg ratio ∨ i = .modecfgRatio ratio) (hbusy : s.busy = false)
    (hfam : s.family = .adc20) : exec i s = .next (bodySetavg ratio (underway s (encodeWord i) [])) := by
  obtain rfl | rfl := hi <;> exact exec_eq_commandBody (by simp [Instr.kind]) hbusy (by rw [hfam]; rfl)

end Setavg

/-- Settles O32: a legal ratio is written and then cached, and an illegal one is rejected before any exchange. -/
theorem setavgWritesTheRatio : Obligations.SetavgWritesTheRatio := by
  unfold Obligations.SetavgWritesTheRatio
  intro s i ratio hi hbusy hfam
  rw [exec_setavg_eq hi hbusy hfam]
  refine ⟨fun hratio rx hgets => ?_, fun hratio hgets => ?_, fun hratio => ?_⟩
  · obtain ⟨hwrite, -⟩ := gets_cons.1 hgets
    rw [bodySetavg_legal hratio]
    exact congrArg _ <| (orIoError_xchg_answered hwrite rfl _).trans <|
      finish_underway .ok 0 { s with osr := ratio.setWidth 3 } ..
  · obtain ⟨hwrite, -⟩ := gets_cons.1 hgets
    rw [bodySetavg_legal hratio]
    exact congrArg _ <| (orIoError_xchg_failed hwrite rfl _).trans (raise_ioError_underway ..)
  · rw [bodySetavg_illegal hratio, raise_invalidArgument_underway]

/-! ### A command that delivers records -/

/-- `s` after it accepted the word `w`, issued the exchanges `evs` and delivered the records `rs`: what `completed`
says of it but for its completion. PEND is as in `s`. -/
def acquiring (s : State) (w : Word) (evs : List Event) (rs : List Sample) : State :=
  { completed s w .ok 0 evs rs with
    busy := true, pend := s.pend, status := s.status, result := s.result, nsamp := s.nsamp, responses := s.responses }

section Acquiring
variable {s : State} {w : Word} {done evs : List Event} {rs : List Sample} {e : Event} {addr value : Byte}

/-- Before its first record such a command is underway, with nothing pending. -/
theorem underway_eq_acquiring (s : State) (w : Word) (evs : List Event) :
    underway s w evs = acquiring { s with pend := .ok } w evs [] := by
  simp [underway, acquiring, completed]

theorem xchg_acquiring (hask : ask s done e.tx e.hold = e.rx) :
    xchg e.tx e.hold (acquiring s w done rs) = (acquiring s w (done ++ [e]) rs, e.rx) := by
  have hrx : (xchg e.tx e.hold (acquiring s w done rs)).2 = e.rx := hask
  refine Prod.ext ?_ hrx
  rw [xchg_fst, hrx]
  simp [recordExchange, acquiring, completed, lastRx_append_singleton, BitVec.ofNat_add]

theorem regWrite20_acquiring {rx : Option (List Byte)}
    (hask : ask s done (writeEvent s.cfg addr value rx).tx false = rx) :
    regWrite20 addr value (acquiring s w done rs) =
      (acquiring s w (done ++ [writeEvent s.cfg addr value rx]) rs, rx) :=
  xchg_acquiring (e := writeEvent s.cfg addr value rx) hask

theorem cycle20_acquiring {rx : Option (List Byte)} (hask : ask s done (cycleEvent s.cfg rx).tx false = rx) :
    cycle20 (acquiring s w done rs) = (acquiring s w (done ++ [cycleEvent s.cfg rx]) rs, rx) :=
  xchg_acquiring (e := cycleEvent s.cfg rx) hask

theorem frame20_acquiring_failed (hask : ask s done (cycleEvent s.cfg none).tx false = none) :
    frame20 (acquiring s w done rs) = (acquiring s w (done ++ [cycleEvent s.cfg none]) rs, none) := by
  rw [frame20, cycle20_acquiring hask]

/-- An answered read cycle is decoded under the caches the command started with (R143), and its frame latched. -/
theorem frame20_acquiring_answered {r1 r2 r3 : Byte}
    (hask : ask s done (cycleEvent s.cfg (some [r1, r2, r3])).tx false = some [r1, r2, r3]) :
    frame20 (acquiring s w done rs) =
      (acquiring (latchFrame (decodeFrame20 s.osr s.chidEn r1 r2 r3) s) w
          (done ++ [cycleEvent s.cfg (some [r1, r2, r3])]) rs,
        some (decodeFrame20 s.osr s.chidEn r1 r2 r3)) := by
  rw [frame20, cycle20_acquiring hask]
  rfl

theorem emit_acquiring (r : Sample) : emit r (acquiring s w evs rs) = acquiring s w evs (rs ++ [r]) := by
  simp [emit, acquiring, completed, BitVec.ofNat_add]

theorem finish_acquiring (status : Status) (result : Word) {n : Byte} (hn : n = BitVec.ofNat 8 rs.length) :
    finish status result n (acquiring s w evs rs) = { completed s w status result evs rs with pend := s.pend } := by
  subst hn
  rfl

/-- R216: an error that ends the session completes the command with the records so far. -/
theorem raise_acquiring {e : Status} (he : e = .ioError ∨ e = .protocolDesync) :
    raise e (acquiring s w evs rs) = { lostSession (completed s w e 0 evs rs) with pend := s.pend } := by
  obtain rfl | rfl := he <;> rfl

theorem getsAfter_append {es es' : List Event} :
    getsAfter s done (es ++ es') = true ↔ getsAfter s done es = true ∧ getsAfter s (done ++ es) es' = true := by
  induction es generalizing done with
  | nil => simp [getsAfter]
  | cons e es ih => simp [getsAfter_cons, ih, and_assoc]

end Acquiring

/-! ### SMAN (R150) -/

/-- Where an SMAN runs from, once accepted: ST is Manual. -/
def sampling (s : State) : State := { s with st := .manual, pend := .ok }

section Sman
variable {s : State} {w : Word} {ch : Byte} {a d : List Byte}

theorem bodySman20_outOfRange (hch : 7 < ch.toNat) (u : State) : bodySman20 ch u = raise .invalidArgument u :=
  if_neg fun h => Nat.not_le.2 hch ((channelLegal_iff .adc20 ch).1 h)

/-- What SMAN does with the frame of its real read cycle (R150): the channel-ID check, then the record. -/
def deliver20 (ch : Byte) (u : State) (fr : Frame) : State :=
  if chidOk fr.chidv fr.chid ch then
    finish .ok (sampleOf u.cfg .adc20 fr 0).mv 1 (emit (sampleOf u.cfg .adc20 fr 0) u)
  else raise .protocolDesync u

/-- SMAN past its argument check. -/
theorem bodySman20_inRange (hch : ch.toNat ≤ 7) :
    bodySman20 ch (underway s w []) =
      orIoError (regWrite20 s.cfg.regChannelSel ch (acquiring (sampling s) w [] [])) fun u _ =>
        orIoError (cycle20 u) fun u _ => orIoError (frame20 u) (deliver20 ch) := by
  rw [bodySman20, if_pos ((channelLegal_iff .adc20 ch).2 hch), underway_eq_acquiring]
  rfl

theorem bodySman20_write_failed (hch : ch.toNat ≤ 7)
    (h : gets s [writeEvent s.cfg s.cfg.regChannelSel ch none] = true) :
    bodySman20 ch (underway s w []) =
      lostSession (completed s w .ioError 0 [writeEvent s.cfg s.cfg.regChannelSel ch none] []) := by
  obtain ⟨hwrite, -⟩ := gets_cons.1 h
  rw [bodySman20_inRange hch, regWrite20_acquiring (s := sampling s) hwrite]
  exact raise_acquiring (.inl rfl)

theorem bodySman20_write_answered (hch : ch.toNat ≤ 7)
    (hwrite : ask s [] (writeEvent s.cfg s.cfg.regChannelSel ch (some a)).tx false = some a) :
    bodySman20 ch (underway s w []) =
      orIoError (cycle20 (acquiring (sampling s) w [writeEvent s.cfg s.cfg.regChannelSel ch (some a)] []))
        fun u _ => orIoError (frame20 u) (deliver20 ch) := by
  rw [bodySman20_inRange hch, regWrite20_acquiring (s := sampling s) hwrite]
  rfl

theorem bodySman20_dummy_failed (hch : ch.toNat ≤ 7)
    (h : gets s [writeEvent s.cfg s.cfg.regChannelSel ch (some a), cycleEvent s.cfg none] = true) :
    bodySman20 ch (underway s w []) =
      lostSession (completed s w .ioError 0
        [writeEvent s.cfg s.cfg.regChannelSel ch (some a), cycleEvent s.cfg none] []) := by
  obtain ⟨hwrite, hrest⟩ := gets_cons.1 h
  obtain ⟨hdummy, -⟩ := getsAfter_cons.1 hrest
  rw [bodySman20_write_answered hch hwrite, cycle20_acquiring (s := sampling s) hdummy]
  exact raise_acquiring (.inl rfl)

/-- After the dummy cycle, whose bytes go nowhere but the trace and the latch, comes the real one. -/
theorem bodySman20_dummy_answered {e : Event} (hch : ch.toNat ≤ 7)
    (h : gets s [writeEvent s.cfg s.cfg.regChannelSel ch (some a), cycleEvent s.cfg (some d), e] = true) :
    ask s [writeEvent s.cfg s.cfg.regChannelSel ch (some a), cycleEvent s.cfg (some d)] e.tx e.hold = e.rx ∧
      bodySman20 ch (underway s w []) =
        orIoError (frame20 (acquiring (sampling s) w
          [writeEvent s.cfg s.cfg.regChannelSel ch (some a), cycleEvent s.cfg (some d)] [])) (deliver20 ch) := by
  obtain ⟨hwrite, hrest⟩ := gets_cons.1 h
  obtain ⟨hdummy, hrest⟩ := getsAfter_cons.1 hrest
  obtain ⟨hread, -⟩ := getsAfter_cons.1 hrest
  rw [bodySman20_write_answered hch hwrite, cycle20_acquiring (s := sampling s) hdummy]
  exact ⟨hread, rfl⟩

theorem bodySman20_read_failed (hch : ch.toNat ≤ 7)
    (h : gets s [writeEvent s.cfg s.cfg.regChannelSel ch (some a), cycleEvent s.cfg (some d),
      cycleEvent s.cfg none] = true) :
    bodySman20 ch (underway s w []) =
      lostSession (completed s w .ioError 0 [writeEvent s.cfg s.cfg.regChannelSel ch (some a),
        cycleEvent s.cfg (some d), cycleEvent s.cfg none] []) := by
  obtain ⟨hread, hbody⟩ := bodySman20_dummy_answered hch h
  rw [hbody, frame20_acquiring_failed (s := sampling s) hread]
  exact raise_acquiring (.inl rfl)

theorem bodySman20_read_answered {r1 r2 r3 : Byte} (hch : ch.toNat ≤ 7)
    (h : gets s [writeEvent s.cfg s.cfg.regChannelSel ch (some a), cycleEvent s.cfg (some d),
      cycleEvent s.cfg (some [r1, r2, r3])] = true) :
    bodySman20 ch (underway s w []) =
      deliver20 ch (acquiring (latchFrame (decodeFrame20 s.osr s.chidEn r1 r2 r3) (sampling s)) w
        [writeEvent s.cfg s.cfg.regChannelSel ch (some a), cycleEvent s.cfg (some d),
          cycleEvent s.cfg (some [r1, r2, r3])] []) (decodeFrame20 s.osr s.chidEn r1 r2 r3) := by
  obtain ⟨hread, hbody⟩ := bodySman20_dummy_answered hch h
  rw [hbody, frame20_acquiring_answered (s := sampling s) hread]
  rfl

/-- The nibble, where there is one, is not the channel (R201): no record (R215). -/
theorem deliver20_mismatch {fr : Frame} {evs : List Event} (h : fr.chidv = true ∧ fr.chid.toNat ≠ ch.toNat) :
    deliver20 ch (acquiring s w evs []) fr =
      { lostSession (completed s w .protocolDesync 0 evs []) with pend := s.pend } := by
  obtain ⟨hchidv, hchid⟩ := h
  have hfails : ¬ chidOk fr.chidv fr.chid ch = true := fun hok => hchid ((chidOk_iff ..).1 hok hchidv)
  rw [deliver20, if_neg hfails, raise_acquiring (.inr rfl)]

theorem deliver20_match {fr : Frame} {evs : List Event} (h : ¬ (fr.chidv = true ∧ fr.chid.toNat ≠ ch.toNat)) :
    deliver20 ch (acquiring s w evs []) fr =
      { completed s w .ok (sampleOf s.cfg .adc20 fr 0).mv evs [sampleOf s.cfg .adc20 fr 0] with pend := s.pend } := by
  have hpasses : chidOk fr.chidv fr.chid ch = true :=
    (chidOk_iff ..).2 fun hchidv => by_contra fun hchid => h ⟨hchidv, hchid⟩
  rw [deliver20, if_pos hpasses, emit_acquiring]
  exact finish_acquiring .ok _ rfl

theorem exec_sman20_eq {u : State} (hbusy : s.busy = false) (hfam : s.family = .adc20)
    (hbody : bodySman20 ch (underway s (encodeWord (.sman20 ch)) []) = u) : exec (.sman20 ch) s = .next u := by
  rw [← hbody]
  exact exec_eq_commandBody (by simp [Instr.kind]) hbusy (by rw [hfam]; rfl)

end Sman

/-- Settles O33: the body runs to one of its ends by what its three exchanges are answered; an answered real cycle is
delivered or, by the channel-ID check, refused. -/
theorem sman20SamplesOneChannel : Obligations.Sman20SamplesOneChannel := by
  unfold Obligations.Sman20SamplesOneChannel
  intro s ch hbusy hfam w e1 e2
  refine ⟨fun hch => exec_sman20_eq hbusy hfam ?_, ?_, ?_⟩
  · rw [bodySman20_outOfRange hch, raise_invalidArgument_underway]
  · intro hch a d r1 r2 r3 evs fr r hgets
    refine exec_sman20_eq hbusy hfam ((bodySman20_read_answered hch hgets).trans ?_)
    split
    case isTrue hmismatch => exact deliver20_mismatch hmismatch
    case isFalse hmatch => exact deliver20_match hmatch
  · rintro hch a d evs (rfl | rfl | rfl) hgets <;> apply exec_sman20_eq hbusy hfam
    · exact bodySman20_write_failed hch hgets
    · exact bodySman20_dummy_failed hch hgets
    · exact bodySman20_read_failed hch hgets

/-! ### The bytes of the dummy cycle -/

/-- A state without the trace, the coming answers and the latch of received bytes. -/
def forgetBytes (t : State) : State := { t with trace := [], answers := [], lat := { t.lat with rx := [] } }

/-- `s` with the answers to SMAN's exchanges listed, the dummy cycle's answered with the bytes `d`. -/
def withDummyBytes (s : State) (a c : Answer) (rest : List Answer) (d : List Byte) : State :=
  { s with answers := a :: .ok d :: c :: rest }

section DummyBytes
variable {s : State} {ch : Byte} {a c : Answer} {rest : List Answer} {d : List Byte}

/-- The listed answers, as `gets` has them: the write's, the dummy cycle's bytes, the real cycle's. -/
theorem gets_withDummyBytes {e1 e2 e3 : Event} (hd : d.length = e2.tx.length) (h1 : received e1.tx.length a = e1.rx)
    (h2 : e2.rx = some d) (h3 : received e3.tx.length c = e3.rx) :
    gets (withDummyBytes s a c rest d) [e1, e2, e3] = true := by
  have hdummy : received e2.tx.length (.ok d) = e2.rx := by rw [h2, received, if_pos hd]
  exact gets_cons.2 ⟨h1, getsAfter_cons.2 ⟨hdummy, getsAfter_cons.2 ⟨h3, rfl⟩⟩⟩

/-- `result` is what SMAN leaves by the bytes of its dummy cycle, and it has them only in what `forgetBytes` erases. -/
def IgnoresDummyBytes (s : State) (ch : Byte) (a c : Answer) (rest : List Answer) (result : List Byte → State) : Prop :=
  (∀ d, d.length = 3 → exec (.sman20 ch) (withDummyBytes s a c rest d) = .next (result d)) ∧
    ∀ d d', forgetBytes (result d) = forgetBytes (result d')

/-- A block that has no row for the word rejects it before any exchange. -/
theorem ignoresDummyBytes_of_illegal (hbusy : s.busy = false) (hfam : s.family ≠ .adc20) :
    ∃ result, IgnoresDummyBytes s ch a c rest result := by
  have hillegal : ¬ rowLegal (.sman20 ch) s.family = true := by simp [rowLegal, Instr.onFamily, hfam]
  refine ⟨fun d => raise .illegalCommand (accept (encodeWord (.sman20 ch)) (withDummyBytes s a c rest d)),
    fun d _ => ?_, fun _ _ => rfl⟩
  rw [exec_eq_command (by simp [Instr.kind])]
  exact (command_idle (s := withDummyBytes s a c rest d) _ _ _ hbusy).trans (congrArg _ (if_neg hillegal))

/-- The answers to the write and to the real cycle decide which of its ends SMAN comes to. -/
theorem ignoresDummyBytes_of_legal (hbusy : s.busy = false) (hfam : s.family = .adc20) :
    ∃ result, IgnoresDummyBytes s ch a c rest result := by
  have hrun {d : List Byte} {u : State} (hbody : bodySman20 ch
      (underway (withDummyBytes s a c rest d) (encodeWord (.sman20 ch)) []) = u) :
      exec (.sman20 ch) (withDummyBytes s a c rest d) = .next u :=
    exec_sman20_eq (s := withDummyBytes s a c rest d) hbusy hfam hbody
  by_cases hch : ch.toNat ≤ 7
  case neg => exact ⟨_, fun _ _ => hrun (bodySman20_outOfRange (Nat.not_le.1 hch) _), fun _ _ => rfl⟩
  cases hwrite : received 3 a with
  | none => exact ⟨_, fun _ _ => hrun (bodySman20_write_failed hch (gets_cons.2 ⟨hwrite, rfl⟩)), fun _ _ => rfl⟩
  | some first =>
    cases hread : received 3 c with
    | none =>
      exact ⟨_, fun _ hd => hrun (bodySman20_read_failed hch (gets_withDummyBytes hd hwrite rfl hread)),
        fun _ _ => rfl⟩
    | some frame =>
      obtain ⟨r1, r2, r3, rfl⟩ := List.length_eq_three.1 (received_length hread)
      have hbody d (hd : d.length = 3) :=
        bodySman20_read_answered (s := withDummyBytes s a c rest d) (w := encodeWord (.sman20 ch)) hch
          (gets_withDummyBytes hd hwrite rfl hread)
      by_cases hid : (decodeFrame20 s.osr s.chidEn r1 r2 r3).chidv = true ∧
          (decodeFrame20 s.osr s.chidEn r1 r2 r3).chid.toNat ≠ ch.toNat
      · exact ⟨_, fun d hd => hrun ((hbody d hd).trans (deliver20_mismatch hid)), fun _ _ => rfl⟩
      · exact ⟨_, fun d hd => hrun ((hbody d hd).trans (deliver20_match hid)), fun _ _ => rfl⟩

end DummyBytes

/-- Settles O35: both runs leave what one function of the dummy bytes gives, which has them only in what the statement
erases. -/
theorem dummyReadBytesAreIgnored : Obligations.DummyReadBytesAreIgnored := by
  unfold Obligations.DummyReadBytesAreIgnored
  intro s t t' ch a c rest d d' hd hd' h h'
  obtain ⟨hbusy, -⟩ := exec_ending (by simp [Instr.kind]) h
  have hignores : ∃ result, IgnoresDummyBytes s ch a c rest result := by
    by_cases hfam : s.family = .adc20
    · exact ignoresDummyBytes_of_legal hbusy hfam
    · exact ignoresDummyBytes_of_illegal hbusy hfam
  obtain ⟨result, hexec, hsame⟩ := hignores
  have ht : t = result d := Host.Outcome.next.inj (h.symm.trans (hexec d hd))
  have ht' : t' = result d' := Host.Outcome.next.inj (h'.symm.trans (hexec d' hd'))
  rw [ht, ht']
  exact hsame d d'

/-! ### SSEQ: the read cycles (R153) -/

/-- Where an SSEQ runs from, once accepted, with the frames it has latched so far: ST is Sequencing, the mask of its
stop channel is built (R100), and PEND holds the first error. -/
def sequencing (s : State) (stop : Byte) (pend : Status) (frames : List (Byte × Byte × Byte)) : State :=
  { s with
    st := .sequencing, pend := pend
    lat := { s.lat with fr := lastFrame20 s frames, mask := seqMask stop.toNat } }

/-- The read cycles that were answered these frames. -/
def readCycles (s : State) (frames : List (Byte × Byte × Byte)) : List Event :=
  frames.map fun f => cycleEvent s.cfg (some [f.1, f.2.1, f.2.2])

/-- The frame that a read cycle's bytes decode to (R143). -/
def frameOf (s : State) (f : Byte × Byte × Byte) : Frame := decodeFrame20 s.osr s.chidEn f.1 f.2.1 f.2.2

/-- An SSEQ that issued the exchanges `opening` and then had its first read cycles answered these frames, with no
mismatch: each gave its record. -/
def afterFrames (s : State) (w : Word) (stop : Byte) (opening : List Event) (frames : List (Byte × Byte × Byte)) :
    State :=
  acquiring (sequencing s stop .ok frames) w (opening ++ readCycles s frames) (records20 s frames)

section Reads
variable {s : State} {w : Word} {stop : Byte} {opening : List Event} {frames before : List (Byte × Byte × Byte)}
  {f : Byte × Byte × Byte} {n : Nat}

theorem readCycles_append_singleton :
    readCycles s (frames ++ [f]) = readCycles s frames ++ [cycleEvent s.cfg (some [f.1, f.2.1, f.2.2])] := by
  simp [readCycles]

theorem records20_append_singleton :
    records20 s (frames ++ [f]) =
      records20 s frames ++ [sampleOf s.cfg .adc20 (frameOf s f) (BitVec.ofNat 8 frames.length)] := by
  simp [records20, frameOf]

@[simp] theorem length_records20 : (records20 s frames).length = frames.length := List.length_mapIdx

theorem latchFrame_sequencing (pend : Status) :
    latchFrame (frameOf s f) (sequencing s stop pend frames) = sequencing s stop pend (frames ++ [f]) := by
  simp [latchFrame, sequencing, lastFrame20, frameOf]

/-- The channel-ID check passes on every one of these frames (R201). -/
theorem idsMatch_iff : idsMatch s frames = true ↔
    ∀ i (hi : i < frames.length), (frameOf s frames[i]).chidv = true → (frameOf s frames[i]).chid.toNat = i := by
  simp [idsMatch, frameOf, List.mem_mapIdx, imp_iff_not_or]

theorem chidOk_of_idsMatch (h : idsMatch s (before ++ f :: frames) = true) (hlen : before.length < 256) :
    chidOk (frameOf s f).chidv (frameOf s f).chid (BitVec.ofNat 8 before.length) = true := by
  have hf := idsMatch_iff.1 h before.length (by simp)
  rw [List.getElem_append_right (Nat.le_refl _)] at hf
  rw [chidOk_iff, BitVec.toNat_ofNat, Nat.mod_eq_of_lt hlen]
  simpa using hf

/-- A read cycle of SSEQ that is answered. -/
theorem frame20_sequencing {pend : Status} {done : List Event} {rs : List Sample}
    (hask : ask s done (cycleEvent s.cfg (some [f.1, f.2.1, f.2.2])).tx false = some [f.1, f.2.1, f.2.2]) :
    frame20 (acquiring (sequencing s stop pend frames) w done rs) =
      (acquiring (sequencing s stop pend (frames ++ [f])) w
        (done ++ [cycleEvent s.cfg (some [f.1, f.2.1, f.2.2])]) rs, some (frameOf s f)) := by
  rw [← latchFrame_sequencing]
  exact frame20_acquiring_answered (s := sequencing s stop pend frames) hask

/-- One read cycle of the loop, where its channel-ID check passes. -/
theorem readLoop20_afterFrames_succ
    (hask : ask s (opening ++ readCycles s before) (cycleEvent s.cfg (some [f.1, f.2.1, f.2.2])).tx false =
      some [f.1, f.2.1, f.2.2])
    (hid : chidOk (frameOf s f).chidv (frameOf s f).chid (BitVec.ofNat 8 before.length) = true) :
    readLoop20 (n + 1) (BitVec.ofNat 8 before.length) (afterFrames s w stop opening before) =
      readLoop20 n (BitVec.ofNat 8 (before ++ [f]).length) (afterFrames s w stop opening (before ++ [f])) := by
  have hemit : emit (sampleOf s.cfg .adc20 (frameOf s f) (BitVec.ofNat 8 before.length))
      (acquiring (sequencing s stop .ok (before ++ [f])) w
        (opening ++ readCycles s before ++ [cycleEvent s.cfg (some [f.1, f.2.1, f.2.2])]) (records20 s before)) =
      afterFrames s w stop opening (before ++ [f]) := by
    rw [emit_acquiring, ← records20_append_singleton, List.append_assoc, ← readCycles_append_singleton, afterFrames]
  rw [readLoop20, afterFrames, frame20_sequencing hask]
  dsimp only
  rw [if_pos hid, List.length_append, List.length_singleton, BitVec.ofNat_add, ← hemit]
  rfl

/-- The loop over frames with no failure and no mismatch. -/
theorem readLoop20_afterFrames (hids : idsMatch s (before ++ frames) = true) (hlen : (before ++ frames).length ≤ 256)
    (hgets : getsAfter s (opening ++ readCycles s before) (readCycles s frames) = true) :
    readLoop20 (frames.length + n) (BitVec.ofNat 8 before.length) (afterFrames s w stop opening before) =
      readLoop20 n (BitVec.ofNat 8 (before ++ frames).length) (afterFrames s w stop opening (before ++ frames)) := by
  induction frames generalizing before with
  | nil => simp
  | cons f frames ih =>
    obtain ⟨hask, hrest⟩ := getsAfter_cons.1 hgets
    have hroom : before.length < 256 := by simp at hlen; omega
    have hassoc : before ++ f :: frames = (before ++ [f]) ++ frames := by simp
    rw [List.append_assoc, ← readCycles_append_singleton] at hrest
    rw [List.length_cons, Nat.add_right_comm,
      readLoop20_afterFrames_succ hask (chidOk_of_idsMatch hids hroom)]
    rw [hassoc] at hids hlen ⊢
    exact ih hids hlen hrest

/-- A read cycle that fails ends the loop (R154 c). -/
theorem readLoop20_failed (hask : ask s (opening ++ readCycles s before) (cycleEvent s.cfg none).tx false = none)
    (i : Byte) :
    readLoop20 (n + 1) i (afterFrames s w stop opening before) =
      acquiring (sequencing s stop .ioError before) w (opening ++ readCycles s before ++ [cycleEvent s.cfg none])
        (records20 s before) := by
  rw [readLoop20, afterFrames, frame20_acquiring_failed (s := sequencing s stop .ok before) hask]
  rfl

/-- So does one whose nibble is not the channel (R154 c, R215); its frame stays latched. -/
theorem readLoop20_mismatch {i : Byte}
    (hask : ask s (opening ++ readCycles s before) (cycleEvent s.cfg (some [f.1, f.2.1, f.2.2])).tx false =
      some [f.1, f.2.1, f.2.2])
    (hid : ¬ chidOk (frameOf s f).chidv (frameOf s f).chid i = true) :
    readLoop20 (n + 1) i (afterFrames s w stop opening before) =
      acquiring (sequencing s stop .protocolDesync (before ++ [f])) w
        (opening ++ readCycles s before ++ [cycleEvent s.cfg (some [f.1, f.2.1, f.2.2])]) (records20 s before) := by
  rw [readLoop20, afterFrames, frame20_sequencing hask]
  dsimp only
  rw [if_neg hid]
  rfl

/-- A nibble that is not `before.length`, in the terms of the check. -/
theorem not_chidOk_of_ne (hchidEn : s.chidEn = true) (hid : (frameOf s f).chid.toNat ≠ before.length)
    (hlen : before.length < 256) :
    ¬ chidOk (frameOf s f).chidv (frameOf s f).chid (BitVec.ofNat 8 before.length) = true := by
  have hchidv : (frameOf s f).chidv = true := (decodeFrame20_chidv ..).trans hchidEn
  rw [chidOk_iff, BitVec.toNat_ofNat, Nat.mod_eq_of_lt hlen]
  exact fun h => hid (h hchidv)

/-- The error of a bad read cycle: it was answered, with the wrong nibble, or it failed. -/
def readError (bad : Option (Byte × Byte × Byte)) : Status := if bad.isSome then .protocolDesync else .ioError

theorem readError_eq (bad : Option (Byte × Byte × Byte)) :
    readError bad = .ioError ∨ readError bad = .protocolDesync := by
  cases bad with
  | none => exact .inl rfl
  | some f => exact .inr rfl

/-- A bad read cycle ends the loop with its error pending (R154 c, R215). -/
theorem readLoop20_bad {bad : Option (Byte × Byte × Byte)}
    (hask : ask s (opening ++ readCycles s before) (cycleEvent s.cfg (bad.map fun f => [f.1, f.2.1, f.2.2])).tx false =
      bad.map fun f => [f.1, f.2.1, f.2.2])
    (hbad : ∀ f, bad = some f → s.chidEn = true ∧ (frameOf s f).chid.toNat ≠ before.length)
    (hlen : before.length < 256) :
    readLoop20 (n + 1) (BitVec.ofNat 8 before.length) (afterFrames s w stop opening before) =
      acquiring (sequencing s stop (readError bad) (before ++ bad.toList)) w
        (opening ++ (readCycles s before ++ [cycleEvent s.cfg (bad.map fun f => [f.1, f.2.1, f.2.2])]))
        (records20 s before) := by
  rw [← List.append_assoc]
  cases bad with
  | none =>
    rw [Option.toList_none, List.append_nil]
    exact readLoop20_failed hask _
  | some f =>
    obtain ⟨hchidEn, hid⟩ := hbad f rfl
    exact readLoop20_mismatch hask (not_chidOk_of_ne hchidEn hid hlen)

end Reads

/-! ### SSEQ: the writes around the read cycles (R153) -/

/-- PEND after the stop write: its failure counts only where nothing failed before it (R217). -/
def pendAfterStop (pend : Status) (answer : Option (List Byte)) : Status :=
  if answer = none ∧ pend = .ok then .ioError else pend

theorem ne_ok_of_error {e : Status} (h : e = .ioError ∨ e = .protocolDesync) : e ≠ .ok := by
  rintro rfl
  simp at h

/-- R217: the stop write's failure does not replace an earlier error. -/
theorem pendAfterStop_of_error {pend : Status} (h : pend = .ioError ∨ pend = .protocolDesync)
    (answer : Option (List Byte)) : pendAfterStop pend answer = pend :=
  if_neg fun hfirst => ne_ok_of_error h hfirst.2

section Sequence
variable {s : State} {i : Instr} {w : Word} {stop count : Byte} {frames : List (Byte × Byte × Byte)}
  {done evs : List Event} {rs : List Sample} {pend : Status} {a b : List Byte} {answer : Option (List Byte)}

@[simp] theorem sequencing_cfg : (acquiring (sequencing s stop pend frames) w done rs).cfg = s.cfg := rfl

theorem regWrite20_sequencing {addr value : Byte}
    (hask : ask s done (writeEvent s.cfg addr value answer).tx false = answer) :
    regWrite20 addr value (acquiring (sequencing s stop pend frames) w done rs) =
      (acquiring (sequencing s stop pend frames) w (done ++ [writeEvent s.cfg addr value answer]) rs, answer) :=
  regWrite20_acquiring (s := sequencing s stop pend frames) hask

/-- A failed start write is the first error, and no frame is read (R154 b). -/
theorem startAndRead20_failed
    (hask : ask s done (writeEvent s.cfg s.cfg.regSeqMode s.cfg.valSeqStart none).tx false = none) :
    startAndRead20 count (acquiring (sequencing s stop .ok frames) w done rs) =
      acquiring (sequencing s stop .ioError frames) w
        (done ++ [writeEvent s.cfg s.cfg.regSeqMode s.cfg.valSeqStart none]) rs := by
  rw [startAndRead20, sequencing_cfg, regWrite20_sequencing hask]
  rfl

theorem startAndRead20_answered
    (hask : ask s done (writeEvent s.cfg s.cfg.regSeqMode s.cfg.valSeqStart (some b)).tx false = some b) :
    startAndRead20 count (acquiring (sequencing s stop .ok []) w done []) =
      readLoop20 count.toNat 0
        (afterFrames s w stop (done ++ [writeEvent s.cfg s.cfg.regSeqMode s.cfg.valSeqStart (some b)]) []) := by
  rw [startAndRead20, sequencing_cfg, regWrite20_sequencing hask, afterFrames, readCycles, List.map_nil,
    List.append_nil]
  rfl

theorem stopWrite20_sequencing
    (hask : ask s done (writeEvent s.cfg s.cfg.regSeqMode s.cfg.valSeqStop answer).tx false = answer) :
    stopWrite20 (acquiring (sequencing s stop pend frames) w done rs) =
      acquiring (sequencing s stop (pendAfterStop pend answer) frames) w
        (done ++ [writeEvent s.cfg s.cfg.regSeqMode s.cfg.valSeqStop answer]) rs := by
  rw [stopWrite20_eq, sequencing_cfg, regWrite20_sequencing hask]
  rfl

theorem endSequence20_ok (hcount : count = BitVec.ofNat 8 rs.length) :
    endSequence20 count (acquiring (sequencing s stop .ok frames) w evs rs) =
      { completed s w .ok 0 evs rs with
        st := .idle
        lat := { rx := lastRx s.lat.rx evs, fr := lastFrame20 s frames, cw := s.lat.cw,
                 mask := seqMask stop.toNat } } :=
  (if_pos rfl).trans (finish_acquiring (s := { sequencing s stop .ok frames with st := .idle }) .ok 0 hcount)

theorem endSequence20_failed (hpend : pend = .ioError ∨ pend = .protocolDesync) :
    endSequence20 count (acquiring (sequencing s stop pend frames) w evs rs) =
      { lostSession (completed s w pend 0 evs rs) with
        pend := pend
        lat := { rx := lastRx s.lat.rx evs, fr := lastFrame20 s frames, cw := s.lat.cw,
                 mask := seqMask stop.toNat } } :=
  (if_neg (ne_ok_of_error hpend)).trans (raise_acquiring (s := sequencing s stop pend frames) hpend)

/-- SSEQ past its argument checks. -/
theorem bodySseq20_inRange (hlow : 1 ≤ stop.toNat) (hhigh : stop.toNat ≤ 7) (hcount : count.toNat = stop.toNat + 1) :
    bodySseq20 stop count (underway s w []) =
      orIoError (regWrite20 s.cfg.regAutoSeqChSel (seqMask stop.toNat)
        (acquiring (sequencing s stop .ok []) w [] [])) fun u _ =>
          endSequence20 count (stopWrite20 (startAndRead20 count u)) := by
  rw [bodySseq20, if_pos ((stopLegal_iff .adc20 stop).2 ⟨hlow, hhigh⟩), if_pos ((countLegal_iff stop count).2 hcount),
    underway_eq_acquiring]
  rfl

/-- R92: one-operand SSEQ on ADC20 is SSEQ with count stop + 1, so both run the one body. -/
theorem exec_sseq20_eq (hi : i = .sseq20 stop count ∨ i = .sseqStop stop) (hcount : count.toNat = stop.toNat + 1)
    (hbusy : s.busy = false) (hfam : s.family = .adc20) :
    exec i s = .next (bodySseq20 stop count (underway s (encodeWord i) [])) := by
  obtain rfl | rfl := hi
  · exact exec_eq_commandBody (by simp [Instr.kind]) hbusy (by rw [hfam]; rfl)
  · have hstop : stop + 1 = count := by
      apply BitVec.eq_of_toNat_eq
      rw [BitVec.toNat_add, hcount]
      exact Nat.mod_eq_of_lt (hcount ▸ count.isLt)
    have hown : (underway s (encodeWord (.sseqStop stop)) []).family = .adc20 := hfam
    rw [exec_eq_commandBody (by simp [Instr.kind]) hbusy (by rw [hfam]; rfl), commandBody, bodySseqStop, hown, hstop]

theorem bodySseq20_mask_failed (hlow : 1 ≤ stop.toNat) (hhigh : stop.toNat ≤ 7)
    (hcount : count.toNat = stop.toNat + 1)
    (h : gets s [writeEvent s.cfg s.cfg.regAutoSeqChSel (seqMask stop.toNat) none] = true) :
    bodySseq20 stop count (underway s w []) =
      { lostSession (completed s w .ioError 0
          [writeEvent s.cfg s.cfg.regAutoSeqChSel (seqMask stop.toNat) none] []) with
        lat := { s.lat with mask := seqMask stop.toNat } } := by
  obtain ⟨hmask, -⟩ := gets_cons.1 h
  rw [bodySseq20_inRange hlow hhigh hcount, regWrite20_sequencing hmask]
  exact raise_acquiring (s := sequencing s stop .ok []) (.inl rfl)

theorem bodySseq20_mask_answered (hlow : 1 ≤ stop.toNat) (hhigh : stop.toNat ≤ 7)
    (hcount : count.toNat = stop.toNat + 1)
    (hmask : ask s [] (writeEvent s.cfg s.cfg.regAutoSeqChSel (seqMask stop.toNat) (some a)).tx false = some a) :
    bodySseq20 stop count (underway s w []) =
      endSequence20 count (stopWrite20 (startAndRead20 count (acquiring (sequencing s stop .ok []) w
        [writeEvent s.cfg s.cfg.regAutoSeqChSel (seqMask stop.toNat) (some a)] []))) := by
  rw [bodySseq20_inRange hlow hhigh hcount, regWrite20_sequencing hmask]
  rfl

/-- The mask and start writes of a sequence, answered. -/
def opening (s : State) (stop : Byte) (a b : List Byte) : List Event :=
  [writeEvent s.cfg s.cfg.regAutoSeqChSel (seqMask stop.toNat) (some a),
    writeEvent s.cfg s.cfg.regSeqMode s.cfg.valSeqStart (some b)]

/-- A sequence up to the end of its read cycles. The frames given are those it reads with no failure and no mismatch;
`n` read cycles are left, and `tail` is what the oracle answers next. -/
theorem bodySseq20_after_frames {n : Nat} {tail : List Event} (hlow : 1 ≤ stop.toNat) (hhigh : stop.toNat ≤ 7)
    (hcount : count.toNat = stop.toNat + 1) (hlen : frames.length + n = stop.toNat + 1)
    (hids : idsMatch s frames = true)
    (h : gets s (opening s stop a b ++ (readCycles s frames ++ tail)) = true) :
    getsAfter s (opening s stop a b ++ readCycles s frames) tail = true ∧
      bodySseq20 stop count (underway s w []) =
        endSequence20 count (stopWrite20 (readLoop20 n (BitVec.ofNat 8 frames.length)
          (afterFrames s w stop (opening s stop a b) frames))) := by
  obtain ⟨hmask, hrest⟩ := gets_cons.1 h
  obtain ⟨hstart, hrest⟩ := getsAfter_cons.1 hrest
  obtain ⟨hreads, htail⟩ := (getsAfter_append (es := readCycles s frames)).1 hrest
  have hloop := readLoop20_afterFrames (before := []) (w := w) (stop := stop) (opening := opening s stop a b) (n := n)
    hids (by simp; omega) hreads
  rw [hlen, ← hcount] at hloop
  rw [bodySseq20_mask_answered hlow hhigh hcount hmask, startAndRead20_answered hstart]
  exact ⟨htail, congrArg (fun u => endSequence20 count (stopWrite20 u)) hloop⟩

/-- A sequence all of whose frames are read ends with its stop write: OK, or IoError where that write fails. -/
theorem bodySseq20_all_frames (hlow : 1 ≤ stop.toNat) (hhigh : stop.toNat ≤ 7) (hcount : count.toNat = stop.toNat + 1)
    (hlen : frames.length = stop.toNat + 1) (hids : idsMatch s frames = true)
    (h : gets s (opening s stop a b ++
      (readCycles s frames ++ [writeEvent s.cfg s.cfg.regSeqMode s.cfg.valSeqStop answer])) = true) :
    bodySseq20 stop count (underway s w []) =
      endSequence20 count (acquiring (sequencing s stop (pendAfterStop .ok answer) frames) w
        (opening s stop a b ++
          (readCycles s frames ++ [writeEvent s.cfg s.cfg.regSeqMode s.cfg.valSeqStop answer]))
        (records20 s frames)) := by
  obtain ⟨hrest, hbody⟩ := bodySseq20_after_frames (n := 0) hlow hhigh hcount hlen hids h
  obtain ⟨hstop, -⟩ := getsAfter_cons.1 hrest
  rw [hbody, readLoop20, afterFrames, stopWrite20_sequencing hstop, List.append_assoc]

end Sequence

/-- Settles O38: every read cycle gives its record, the answered stop write leaves nothing pending, and the sequence
finishes; the last bytes received are the stop write's. -/
theorem sseq20DeliversEveryFrame : Obligations.Sseq20DeliversEveryFrame := by
  unfold Obligations.Sseq20DeliversEveryFrame
  intro s i stop count frames a b z hi hbusy hfam hlow hhigh hcount hlen hids evs hgets
  have hn : count = BitVec.ofNat 8 (records20 s frames).length := by
    rw [length_records20, hlen, ← hcount, BitVec.ofNat_toNat, BitVec.setWidth_eq]
  have hrx : lastRx s.lat.rx (opening s stop a b ++
      (readCycles s frames ++ [writeEvent s.cfg s.cfg.regSeqMode s.cfg.valSeqStop (some z)])) = z :=
    lastRx_append_singleton s.lat.rx (opening s stop a b ++ readCycles s frames) _
  rw [exec_sseq20_eq hi hcount hbusy hfam, bodySseq20_all_frames hlow hhigh hcount hlen hids hgets]
  refine congrArg _ ((endSequence20_ok hn).trans ?_)
  rw [hrx]
  rfl

/-- Settles O41: every read cycle gives its record, and the failed stop write is the first error. -/
theorem sseq20FailsAtTheStopWrite : Obligations.Sseq20FailsAtTheStopWrite := by
  unfold Obligations.Sseq20FailsAtTheStopWrite
  intro s stop count frames a b hbusy hfam hlow hhigh hcount hlen hids evs hgets
  rw [exec_sseq20_eq (.inl rfl) hcount hbusy hfam, bodySseq20_all_frames hlow hhigh hcount hlen hids hgets]
  exact congrArg _ (endSequence20_failed (.inl rfl))

/-- Settles O39: a failed mask write raises at once; after a failed start write the stop write is issued, whatever it
answers, and the first error is raised. -/
theorem sseq20FailsBeforeItsFrames : Obligations.Sseq20FailsBeforeItsFrames := by
  unfold Obligations.Sseq20FailsBeforeItsFrames
  intro s stop count a z hbusy hfam hlow hhigh hcount w mask e1 e2 e3
  rw [exec_sseq20_eq (.inl rfl) hcount hbusy hfam]
  constructor
  · exact fun hgets => congrArg _ (bodySseq20_mask_failed hlow hhigh hcount hgets)
  · intro hgets
    obtain ⟨hmask, hrest⟩ := gets_cons.1 hgets
    obtain ⟨hstart, hrest⟩ := getsAfter_cons.1 hrest
    obtain ⟨hstop, -⟩ := getsAfter_cons.1 hrest
    rw [bodySseq20_mask_answered hlow hhigh hcount hmask, startAndRead20_failed hstart, stopWrite20_sequencing hstop,
      pendAfterStop_of_error (.inl rfl)]
    exact congrArg _ (endSequence20_failed (.inl rfl))

/-- Settles O40: the bad read cycle ends the loop with its error pending, which the stop write does not change. -/
theorem sseq20AbortsAtABadFrame : Obligations.Sseq20AbortsAtABadFrame := by
  unfold Obligations.Sseq20AbortsAtABadFrame
  intro s stop count frames a b bad z hbusy hfam hlow hhigh hcount hlen hids hbad e evs hgets
  obtain ⟨n, hn⟩ : ∃ n, frames.length + (n + 1) = stop.toNat + 1 := ⟨stop.toNat - frames.length, by omega⟩
  obtain ⟨hrest, hbody⟩ := bodySseq20_after_frames (a := a) (b := b) hlow hhigh hcount hn hids hgets
  obtain ⟨hread, hrest⟩ := getsAfter_cons.1 hrest
  rw [List.append_assoc] at hrest
  obtain ⟨hstop, -⟩ := getsAfter_cons.1 hrest
  rw [exec_sseq20_eq (.inl rfl) hcount hbusy hfam, hbody, readLoop20_bad hread hbad (by omega),
    stopWrite20_sequencing hstop, pendAfterStop_of_error (readError_eq bad), List.append_assoc, List.append_assoc]
  exact congrArg _ (endSequence20_failed (readError_eq bad))

/-! ### The start and stop writes of a sequence (R155) -/

section Trace
variable {s : State} {stop count : Byte}

theorem frame20_trace (s : State) : ∃ rx, (frame20 s).1.trace = s.trace ++ [cycleEvent s.cfg rx] := by
  obtain ⟨-, h⟩ | ⟨rx, -, h⟩ := frame20_cases s <;> rw [h] <;> exact ⟨_, rfl⟩

/-- The loop issues read cycles and nothing else. -/
theorem readLoop20_trace (n : Nat) (i : Byte) (s : State) :
    ∃ rxs : List (Option (List Byte)), (readLoop20 n i s).trace = s.trace ++ rxs.map (cycleEvent s.cfg) := by
  induction n generalizing i s with
  | zero => exact ⟨[], (List.append_nil _).symm⟩
  | succ n ih =>
    obtain ⟨rx, htrace⟩ := frame20_trace s
    have hstraps := straps_frame20 s
    rcases hframe : frame20 s with ⟨t, _ | fr⟩ <;> rw [hframe] at htrace hstraps <;> simp only [readLoop20, hframe]
    case none => exact ⟨[rx], htrace⟩
    case some =>
      split
      · obtain ⟨rxs, hrest⟩ := ih (i + 1) (emit (sampleOf t.cfg .adc20 fr i) t)
        refine ⟨rx :: rxs, hrest.trans ?_⟩
        rw [emit_trace, emit_cfg, htrace, (straps_eq_iff.1 hstraps).2, List.append_assoc]
        rfl
      · exact ⟨[rx], htrace⟩

theorem startAndRead20_trace (count : Byte) (s : State) :
    ∃ rx, ∃ rxs : List (Option (List Byte)), (startAndRead20 count s).trace =
      s.trace ++ writeEvent s.cfg s.cfg.regSeqMode s.cfg.valSeqStart rx :: rxs.map (cycleEvent s.cfg) := by
  rcases hwrite : regWrite20 s.cfg.regSeqMode s.cfg.valSeqStart s with ⟨t, _ | rx⟩ <;>
    obtain ⟨rfl, -⟩ := Prod.mk.inj hwrite <;> rw [startAndRead20, hwrite]
  · exact ⟨_, [], rfl⟩
  · obtain ⟨rxs, hreads⟩ := readLoop20_trace count.toNat 0
      (xchg [s.cfg.writeCmd, s.cfg.regSeqMode, s.cfg.valSeqStart] false s).1
    exact ⟨_, rxs, hreads.trans (List.append_assoc ..)⟩

theorem stopWrite20_trace (s : State) :
    ∃ rx, (stopWrite20 s).trace = s.trace ++ [writeEvent s.cfg s.cfg.regSeqMode s.cfg.valSeqStop rx] := by
  rw [stopWrite20_eq]
  exact ⟨_, rfl⟩

theorem endSequence20_trace (count : Byte) (s : State) : (endSequence20 count s).trace = s.trace := by
  unfold endSequence20
  split
  · rfl
  · exact raise_trace ..

/-- From the attempt to start on, a sequence issues its start write, read cycles and its stop write, whatever they are
answered (R154). -/
theorem startToEnd_trace (count : Byte) (s : State) :
    ∃ startRx, ∃ rxs : List (Option (List Byte)), ∃ stopRx,
      (endSequence20 count (stopWrite20 (startAndRead20 count s))).trace =
        s.trace ++ (writeEvent s.cfg s.cfg.regSeqMode s.cfg.valSeqStart startRx ::
          (rxs.map (cycleEvent s.cfg) ++ [writeEvent s.cfg s.cfg.regSeqMode s.cfg.valSeqStop stopRx])) := by
  obtain ⟨startRx, rxs, hstart⟩ := startAndRead20_trace count s
  obtain ⟨stopRx, hstop⟩ := stopWrite20_trace (startAndRead20 count s)
  refine ⟨startRx, rxs, stopRx, ?_⟩
  rw [endSequence20_trace, hstop, hstart, (straps_eq_iff.1 (straps_startAndRead20 count s)).2, List.append_assoc,
    List.cons_append]

/-- The exchanges that one ADC20 SSEQ can issue, by how far it gets. -/
inductive SequenceEvents (cfg : Cfg) (mask : Byte) : List Event → Prop
  | rejected : SequenceEvents cfg mask []
  | maskFailed : SequenceEvents cfg mask [writeEvent cfg cfg.regAutoSeqChSel mask none]
  | started (maskRx startRx : Option (List Byte)) (rxs : List (Option (List Byte))) (stopRx : Option (List Byte)) :
    SequenceEvents cfg mask
      (writeEvent cfg cfg.regAutoSeqChSel mask maskRx :: writeEvent cfg cfg.regSeqMode cfg.valSeqStart startRx ::
        (rxs.map (cycleEvent cfg) ++ [writeEvent cfg cfg.regSeqMode cfg.valSeqStop stopRx]))

theorem bodySseq20_trace (stop count : Byte) (s : State) :
    ∃ evs, (bodySseq20 stop count s).trace = s.trace ++ evs ∧ SequenceEvents s.cfg (seqMask stop.toNat) evs := by
  unfold bodySseq20
  split
  case isFalse => exact ⟨[], (List.append_nil _).symm, .rejected⟩
  split
  case isFalse => exact ⟨[], (List.append_nil _).symm, .rejected⟩
  extract_lets u
  obtain ⟨hmask, h⟩ | ⟨rx, -, h⟩ := orIoError_cases (regWrite20 u.cfg.regAutoSeqChSel u.lat.mask u) fun v _ =>
    endSequence20 count (stopWrite20 (startAndRead20 count v)) <;> rw [h]
  · refine ⟨_, ?_, .maskFailed⟩
    rw [raise_trace, ← hmask]
    rfl
  · obtain ⟨startRx, rxs, stopRx, htrace⟩ := startToEnd_trace count (regWrite20 u.cfg.regAutoSeqChSel u.lat.mask u).1
    exact ⟨_, htrace.trans (List.append_assoc ..), .started _ startRx rxs stopRx⟩

/-- The same of the whole command: a word that the block has no row for is rejected too. -/
theorem sseq20_newEvents {t : State} (h : exec (.sseq20 stop count) s = .next t) :
    SequenceEvents s.cfg (seqMask stop.toNat) (newEvents s t) := by
  rw [exec_eq_command (by simp [Instr.kind])] at h
  obtain ⟨-, ⟨-, rfl⟩ | ⟨-, rfl⟩⟩ := command_next h
  · obtain ⟨evs, htrace, hevs⟩ := bodySseq20_trace stop count (accept (encodeWord (.sseq20 stop count)) s)
    have hnew : newEvents s (bodySseq20 stop count (accept (encodeWord (.sseq20 stop count)) s)) = evs := by
      simp [newEvents, htrace]
    exact hnew ▸ hevs
  · rw [newEvents, raise_trace, accept_trace, List.drop_length]
    exact .rejected

end Trace

/-! ### Counting writes -/

section Count
variable {cfg : Cfg} {addr value : Byte}

@[simp] theorem writesOf_nil : writesOf cfg addr value [] = 0 := rfl

theorem writesOf_cons_writeEvent {a v : Byte} {rx : Option (List Byte)} {es : List Event} :
    writesOf cfg addr value (writeEvent cfg a v rx :: es) =
      (if a = addr ∧ v = value then 1 else 0) + writesOf cfg addr value es := by
  simp [writesOf, writeEvent, List.countP_cons, Nat.add_comm]

/-- A read cycle is no write where DUMMY is not WRITE_CMD. -/
theorem writesOf_cycles_append (hdummy : cfg.dummy ≠ cfg.writeCmd) (rxs : List (Option (List Byte)))
    (es : List Event) :
    writesOf cfg addr value (rxs.map (cycleEvent cfg) ++ es) = writesOf cfg addr value es := by
  simp [writesOf, List.countP_append, List.countP_eq_zero, cycleEvent, hdummy]

/-- R10: the seven register addresses differ. -/
theorem regAutoSeqChSel_ne_regSeqMode (hok : cfg.ok = true) : cfg.regAutoSeqChSel ≠ cfg.regSeqMode := by
  simp only [Cfg.ok, Bool.and_eq_true, decide_eq_true_eq] at hok
  obtain ⟨⟨⟨⟨⟨⟨⟨-, hnodup⟩, -⟩, -⟩, -⟩, -⟩, -⟩, -⟩ := hok
  intro heq
  simp [Cfg.regAddresses, heq] at hnodup

end Count

/-- Settles O42: the mask write is to another register and a read cycle is no write, so a sequence that got past its
mask write issued one start write and one stop write, and any other issued neither. -/
theorem everyStartHasItsStop : Obligations.EveryStartHasItsStop := by
  unfold Obligations.EveryStartHasItsStop
  intro s t stop count hok hvalues hdummy h
  have hmask := regAutoSeqChSel_ne_regSeqMode hok
  have hevents := sseq20_newEvents h
  generalize newEvents s t = evs at hevents ⊢
  cases hevents with
  | rejected => simp
  | maskFailed => simp [writesOf_cons_writeEvent, hmask]
  | started maskRx startRx rxs stopRx =>
    simp [writesOf_cons_writeEvent, writesOf_cycles_append hdummy, hmask, hvalues, hvalues.symm]

end Sys2Proof.Machine

/-! PROOFS for spec/43_acquisition_adc24.md: INIT, SMAN and SSEQ on ADC24 (R170 to R180). Past their argument checks
SMAN and SSEQ run the same way: a control write, then read transfers that each give a record. `afterTransfers` is such a
command after its first transfers: an SMAN has one transfer, and a sequence is followed by an induction on its frames,
from which each end of SSEQ is read off. -/

namespace Sys2Proof.Machine

/-! ### INIT (R171) -/

/-- Settles O31: the body is two preamble frames; the state that `finish` completes is the one underway with ST and
INITED set in the state it started from, and the first frame that fails raises IoError. -/
theorem init24SendsTwoPreambleFrames : Obligations.Init24SendsTwoPreambleFrames := by
  unfold Obligations.Init24SendsTwoPreambleFrames
  intro s hbusy hfam
  rw [exec_eq_commandBody (by simp [Instr.kind]) hbusy (by rw [hfam]; rfl)]
  constructor
  · intro a b hgets
    obtain ⟨h1, hrest⟩ := gets_cons.1 hgets
    obtain ⟨h2, -⟩ := getsAfter_cons.1 hrest
    exact congrArg _ <| (orIoError_xchg_answered h1 rfl _).trans <| (orIoError_xchg_answered h2 rfl _).trans <|
      finish_underway .ok 0 { s with st := .configured, inited := true } ..
  · rintro a evs (rfl | rfl) hgets <;> obtain ⟨h1, hrest⟩ := gets_cons.1 hgets
    · exact congrArg _ <| (orIoError_xchg_failed h1 rfl _).trans (raise_ioError_underway ..)
    · obtain ⟨h2, -⟩ := getsAfter_cons.1 hrest
      exact congrArg _ <| (orIoError_xchg_answered h1 rfl _).trans <|
        (orIoError_xchg_failed h2 rfl _).trans (raise_ioError_underway ..)

/-! ### The exchanges of a sampling command (R131, R172, R173) -/

section Exchanges
variable {s : State} {w : Word} {done : List Event} {rs : List Sample}

theorem ctlWrite24_acquiring {cw : BitVec 12} {rx : Option (List Byte)}
    (hask : ask s done (controlEvent s.cfg cw rx).tx false = rx) :
    ctlWrite24 cw (acquiring s w done rs) = (acquiring s w (done ++ [controlEvent s.cfg cw rx]) rs, rx) :=
  xchg_acquiring (e := controlEvent s.cfg cw rx) hask

theorem xfer24_acquiring {rx : Option (List Byte)} (hask : ask s done (transferEvent s.cfg rx).tx false = rx) :
    xfer24 (acquiring s w done rs) = (acquiring s w (done ++ [transferEvent s.cfg rx]) rs, rx) :=
  xchg_acquiring (e := transferEvent s.cfg rx) hask

theorem frame24_acquiring_failed (hask : ask s done (transferEvent s.cfg none).tx false = none) :
    frame24 (acquiring s w done rs) = (acquiring s w (done ++ [transferEvent s.cfg none]) rs, none) := by
  rw [frame24, xfer24_acquiring hask]

/-- An answered read transfer is decoded and its frame latched. -/
theorem frame24_acquiring_answered {r1 r2 : Byte}
    (hask : ask s done (transferEvent s.cfg (some [r1, r2])).tx false = some [r1, r2]) :
    frame24 (acquiring s w done rs) =
      (acquiring (latchFrame (decodeFrame24 (pairFrame r1 r2)) s) w
          (done ++ [transferEvent s.cfg (some [r1, r2])]) rs,
        some (decodeFrame24 (pairFrame r1 r2))) := by
  rw [frame24, xfer24_acquiring hask]
  rfl

end Exchanges

/-! ### A command between its transfers (R175, R178) -/

/-- Where an SMAN or SSEQ runs from, once accepted, with the frames it has latched so far: ST says which it is, and its
control word is built (R101). -/
def controlling (s : State) (st : AcqState) (cw : BitVec 12) (frames : List (Byte × Byte)) : State :=
  { s with st := st, pend := .ok, lat := { s.lat with fr := lastFrame24 s frames, cw := cw } }

/-- The read transfers that were answered these frames. -/
def transfers (s : State) (frames : List (Byte × Byte)) : List Event :=
  frames.map fun f => transferEvent s.cfg (some [f.1, f.2])

/-- Such a command whose control write was answered `stale` and whose first read transfers were answered these frames:
each gave its record. -/
def afterTransfers (s : State) (w : Word) (st : AcqState) (cw : BitVec 12) (stale : List Byte)
    (frames : List (Byte × Byte)) : State :=
  acquiring (controlling s st cw frames) w (controlEvent s.cfg cw (some stale) :: transfers s frames)
    (records24 s frames)

section Transfers
variable {s : State} {w : Word} {st : AcqState} {cw : BitVec 12} {stale : List Byte}
  {frames before : List (Byte × Byte)} {f : Byte × Byte} {n : Nat} {evs : List Event} {rs : List Sample}

theorem transfers_append_singleton :
    transfers s (frames ++ [f]) = transfers s frames ++ [transferEvent s.cfg (some [f.1, f.2])] := by
  simp [transfers]

theorem records24_append_singleton :
    records24 s (frames ++ [f]) =
      records24 s frames ++
        [sampleOf s.cfg .adc24 (decodeFrame24 (pairFrame f.1 f.2)) (BitVec.ofNat 8 frames.length)] := by
  simp [records24]

@[simp] theorem length_records24 : (records24 s frames).length = frames.length := List.length_mapIdx

theorem latchFrame_controlling :
    latchFrame (decodeFrame24 (pairFrame f.1 f.2)) (controlling s st cw frames) =
      controlling s st cw (frames ++ [f]) := by
  simp [latchFrame, controlling, lastFrame24]

/-- R212: a failed exchange ends the session with the records so far; the control word and the last frame stay
latched. -/
theorem raise_ioError_controlling :
    raise .ioError (acquiring (controlling s st cw frames) w evs rs) =
      { lostSession (completed s w .ioError 0 evs rs) with
        lat := { rx := lastRx s.lat.rx evs, fr := lastFrame24 s frames, cw := cw, mask := s.lat.mask } } :=
  raise_acquiring (.inl rfl)

/-- A failed control write raises IoError before any transfer. -/
theorem orIoError_control_failed {k : State → List Byte → State} (h : gets s [controlEvent s.cfg cw none] = true) :
    orIoError (ctlWrite24 cw (acquiring (controlling s st cw []) w [] [])) k =
      { lostSession (completed s w .ioError 0 [controlEvent s.cfg cw none] []) with
        lat := { s.lat with cw := cw } } := by
  obtain ⟨hwrite, -⟩ := gets_cons.1 h
  rw [ctlWrite24_acquiring (s := controlling s st cw []) hwrite]
  exact raise_ioError_controlling

/-- After an answered control write no transfer has been read yet. -/
theorem orIoError_control_answered {k : State → List Byte → State}
    (hask : ask s [] (controlEvent s.cfg cw (some stale)).tx false = some stale) :
    orIoError (ctlWrite24 cw (acquiring (controlling s st cw []) w [] [])) k =
      k (afterTransfers s w st cw stale []) stale := by
  rw [ctlWrite24_acquiring (s := controlling s st cw []) hask]
  rfl

theorem frame24_afterTransfers_failed
    (hask : ask s (controlEvent s.cfg cw (some stale) :: transfers s before) (transferEvent s.cfg none).tx false =
      none) :
    frame24 (afterTransfers s w st cw stale before) =
      (acquiring (controlling s st cw before) w
        (controlEvent s.cfg cw (some stale) :: (transfers s before ++ [transferEvent s.cfg none]))
        (records24 s before), none) :=
  frame24_acquiring_failed (s := controlling s st cw before) hask

/-- An answered transfer gives its frame, and with the frame's record delivered the command is one transfer further. -/
theorem frame24_afterTransfers_answered
    (hask : ask s (controlEvent s.cfg cw (some stale) :: transfers s before)
      (transferEvent s.cfg (some [f.1, f.2])).tx false = some [f.1, f.2]) :
    ∃ u, frame24 (afterTransfers s w st cw stale before) = (u, some (decodeFrame24 (pairFrame f.1 f.2))) ∧
      u.cfg = s.cfg ∧
      emit (sampleOf s.cfg .adc24 (decodeFrame24 (pairFrame f.1 f.2)) (BitVec.ofNat 8 before.length)) u =
        afterTransfers s w st cw stale (before ++ [f]) := by
  refine ⟨_, frame24_acquiring_answered (s := controlling s st cw before) hask, rfl, ?_⟩
  rw [latchFrame_controlling, emit_acquiring, ← records24_append_singleton, afterTransfers,
    transfers_append_singleton]
  rfl

end Transfers

/-! ### SMAN (R175) -/

section Sman
variable {s : State} {w : Word} {ch : Byte} {cw : BitVec 12} {stale : List Byte}

theorem bodySman24_outOfRange (hch : 15 < ch.toNat) (u : State) : bodySman24 ch u = raise .invalidArgument u :=
  if_neg fun h => Nat.not_le.2 hch ((channelLegal_iff .adc24 ch).1 h)

/-- What SMAN does with the frame of its transfer: it is the command's one record. -/
def deliver24 (u : State) (fr : Frame) : State :=
  finish .ok (sampleOf u.cfg .adc24 fr 0).mv 1 (emit (sampleOf u.cfg .adc24 fr 0) u)

/-- SMAN past its argument check. -/
theorem bodySman24_inRange (hch : ch.toNat ≤ 15) (hcw : cw = s.cfg.baseManual ||| BitVec.ofNat 12 (ch.toNat * 64)) :
    bodySman24 ch (underway s w []) =
      orIoError (ctlWrite24 cw (acquiring (controlling s .manual cw []) w [] [])) fun u _ =>
        orIoError (frame24 u) deliver24 := by
  rw [hcw, ← channelWord_of_le _ hch, bodySman24, if_pos ((channelLegal_iff .adc24 ch).2 hch), underway_eq_acquiring]
  rfl

theorem orIoError_transfer_failed
    (hask : ask s [controlEvent s.cfg cw (some stale)] (transferEvent s.cfg none).tx false = none) :
    orIoError (frame24 (afterTransfers s w .manual cw stale [])) deliver24 =
      { lostSession (completed s w .ioError 0 [controlEvent s.cfg cw (some stale), transferEvent s.cfg none] []) with
        lat := { s.lat with rx := stale, cw := cw } } := by
  rw [frame24_afterTransfers_failed (before := []) hask]
  exact raise_ioError_controlling

theorem orIoError_transfer_answered {r1 r2 : Byte}
    (hask : ask s [controlEvent s.cfg cw (some stale)] (transferEvent s.cfg (some [r1, r2])).tx false =
      some [r1, r2]) :
    orIoError (frame24 (afterTransfers s w .manual cw stale [])) deliver24 =
      finish .ok (sampleOf s.cfg .adc24 (decodeFrame24 (pairFrame r1 r2)) 0).mv 1
        (afterTransfers s w .manual cw stale [(r1, r2)]) := by
  obtain ⟨u, hframe, hcfg, hemit⟩ := frame24_afterTransfers_answered (before := []) (f := (r1, r2)) hask
  rw [hframe, orIoError_some, deliver24, hcfg]
  exact congrArg _ hemit

theorem exec_sman24_eq {u : State} (hbusy : s.busy = false) (hfam : s.family = .adc24)
    (hbody : bodySman24 ch (underway s (encodeWord (.sman24 ch)) []) = u) : exec (.sman24 ch) s = .next u := by
  rw [← hbody]
  exact exec_eq_commandBody (by simp [Instr.kind]) hbusy (by rw [hfam]; rfl)

end Sman

/-- Settles O34: the body runs to one of its ends by what its two exchanges are answered; the frame received with the
control word goes nowhere but the trace and the latch, and the one of an answered transfer is the record. -/
theorem sman24SamplesOneChannel : Obligations.Sman24SamplesOneChannel := by
  unfold Obligations.Sman24SamplesOneChannel
  intro s ch hbusy hfam w cw e1 e2
  refine ⟨fun hch => exec_sman24_eq hbusy hfam ?_, ?_, ?_⟩
  · rw [bodySman24_outOfRange hch, raise_invalidArgument_underway]
  · intro hch d r1 r2 evs fr r hgets
    obtain ⟨hwrite, hrest⟩ := gets_cons.1 hgets
    obtain ⟨hread, -⟩ := getsAfter_cons.1 hrest
    apply exec_sman24_eq hbusy hfam
    rw [bodySman24_inRange hch rfl, orIoError_control_answered hwrite, orIoError_transfer_answered hread]
    exact finish_acquiring (s := controlling s .manual cw [(r1, r2)]) .ok r.mv rfl
  · rintro hch d evs (rfl | rfl) hgets <;> apply exec_sman24_eq hbusy hfam <;> rw [bodySman24_inRange hch rfl]
    · exact orIoError_control_failed hgets
    · obtain ⟨hwrite, hrest⟩ := gets_cons.1 hgets
      obtain ⟨hread, -⟩ := getsAfter_cons.1 hrest
      rw [orIoError_control_answered hwrite, orIoError_transfer_failed hread]
      rfl

/-! ### The stale frame (R134, R175) -/

/-- A command row that the block does not have is rejected before any exchange (R85 d). -/
theorem exec_of_illegal {i : Instr} {s : State} (hk : i.kind ≠ .wireFrame) (hbusy : s.busy = false)
    (hillegal : ¬ rowLegal i s.family = true) :
    exec i s = .next (raise .illegalCommand (accept (encodeWord i) s)) := by
  rw [exec_eq_command hk, command_idle _ _ _ hbusy, if_neg hillegal]

/-- `s` with the answers to SMAN's exchanges listed, the control write's answered with the bytes `stale`. -/
def withStaleFrame (s : State) (c : Answer) (rest : List Answer) (stale : List Byte) : State :=
  { s with answers := .ok stale :: c :: rest }

section StaleFrame
variable {s : State} {c : Answer} {rest : List Answer} {stale : List Byte}

/-- The listed answers, as `gets` has them: the stale frame, then the transfer's. -/
theorem gets_withStaleFrame {e1 e2 : Event} (hlen : stale.length = e1.tx.length) (h1 : e1.rx = some stale)
    (h2 : received e2.tx.length c = e2.rx) : gets (withStaleFrame s c rest stale) [e1, e2] = true := by
  have hstale : received e1.tx.length (.ok stale) = e1.rx := by rw [h1, received, if_pos hlen]
  exact gets_cons.2 ⟨hstale, getsAfter_cons.2 ⟨h2, rfl⟩⟩

/-- What SMAN leaves, as a function of the stale frame, which stands only in what `forgetBytes` erases. -/
theorem sman24_ignores_stale {ch : Byte} (hbusy : s.busy = false) :
    ∃ result : List Byte → State,
      (∀ d, d.length = 2 → exec (.sman24 ch) (withStaleFrame s c rest d) = .next (result d)) ∧
        ∀ d d', forgetBytes (result d) = forgetBytes (result d') := by
  by_cases hfam : s.family = .adc24
  case neg =>
    have hillegal : ¬ rowLegal (.sman24 ch) s.family = true := by simp [rowLegal, Instr.onFamily, hfam]
    exact ⟨_, fun d _ => exec_of_illegal (s := withStaleFrame s c rest d) (by simp [Instr.kind]) hbusy hillegal,
      fun _ _ => rfl⟩
  obtain ⟨hrejected, hrest⟩ :=
    forall_and.1 fun d => sman24SamplesOneChannel (withStaleFrame s c rest d) ch hbusy hfam
  obtain ⟨hanswered, hfailed⟩ := forall_and.1 hrest
  by_cases hch : ch.toNat ≤ 15
  case neg => exact ⟨_, fun d _ => hrejected d (Nat.not_le.1 hch), fun _ _ => rfl⟩
  cases hread : received 2 c with
  | none =>
    exact ⟨_, fun d hd => hfailed d hch d _ (.inr rfl) (gets_withStaleFrame hd rfl hread), fun _ _ => rfl⟩
  | some frame =>
    obtain ⟨r1, r2, rfl⟩ := List.length_eq_two.1 (received_length hread)
    exact ⟨_, fun d hd => hanswered d hch d r1 r2 (gets_withStaleFrame hd rfl hread), fun _ _ => rfl⟩

end StaleFrame

/-- Settles O36: both runs leave what one function of the stale frame gives, which has it only in what the statement
erases. -/
theorem staleFrameIsDiscarded : Obligations.StaleFrameIsDiscarded := by
  unfold Obligations.StaleFrameIsDiscarded
  intro s t t' ch c rest d d' hd hd' h h'
  obtain ⟨hbusy, -⟩ := exec_ending (by simp [Instr.kind]) h
  obtain ⟨result, hexec, hsame⟩ := sman24_ignores_stale (s := s) (c := c) (rest := rest) (ch := ch) hbusy
  have ht : t = result d := Host.Outcome.next.inj (h.symm.trans (hexec d hd))
  have ht' : t' = result d' := Host.Outcome.next.inj (h'.symm.trans (hexec d' hd'))
  rw [ht, ht']
  exact hsame d d'

/-! ### SSEQ (R178, R179) -/

section Sequence
variable {s : State} {i : Instr} {w : Word} {stop count : Byte} {cw : BitVec 12} {stale : List Byte}
  {frames before : List (Byte × Byte)} {n : Nat} {tail : List Event}

/-- One read transfer of the loop gives its record, whatever its frame. -/
theorem readLoop24_afterTransfers_succ {f : Byte × Byte}
    (hask : ask s (controlEvent s.cfg cw (some stale) :: transfers s before)
      (transferEvent s.cfg (some [f.1, f.2])).tx false = some [f.1, f.2]) :
    readLoop24 (n + 1) (BitVec.ofNat 8 before.length) (afterTransfers s w .sequencing cw stale before) =
      readLoop24 n (BitVec.ofNat 8 (before ++ [f]).length)
        (afterTransfers s w .sequencing cw stale (before ++ [f])) := by
  obtain ⟨u, hframe, hcfg, hemit⟩ := frame24_afterTransfers_answered hask
  rw [readLoop24, hframe]
  dsimp only
  rw [hcfg, hemit, List.length_append, List.length_singleton, BitVec.ofNat_add]
  rfl

/-- The loop over frames with no failure. -/
theorem readLoop24_afterTransfers
    (hgets : getsAfter s (controlEvent s.cfg cw (some stale) :: transfers s before) (transfers s frames) = true) :
    readLoop24 (frames.length + n) (BitVec.ofNat 8 before.length) (afterTransfers s w .sequencing cw stale before) =
      readLoop24 n (BitVec.ofNat 8 (before ++ frames).length)
        (afterTransfers s w .sequencing cw stale (before ++ frames)) := by
  induction frames generalizing before with
  | nil => simp
  | cons f frames ih =>
    obtain ⟨hask, hrest⟩ := getsAfter_cons.1 hgets
    have hassoc : before ++ f :: frames = (before ++ [f]) ++ frames := by simp
    rw [List.cons_append, ← transfers_append_singleton] at hrest
    rw [List.length_cons, Nat.add_right_comm, readLoop24_afterTransfers_succ hask, hassoc]
    exact ih hrest

/-- SSEQ past its argument checks. -/
theorem bodySseq24_inRange (hlow : 1 ≤ stop.toNat) (hhigh : stop.toNat ≤ 15) (hcount : count.toNat = stop.toNat + 1)
    (hcw : cw = s.cfg.baseSeq ||| BitVec.ofNat 12 (stop.toNat * 64)) :
    bodySseq24 stop count (underway s w []) =
      orIoError (ctlWrite24 cw (acquiring (controlling s .sequencing cw []) w [] [])) fun u _ =>
        orIoError (readLoop24 count.toNat 0 u) fun u _ => finish .ok 0 count { u with st := .idle } := by
  rw [hcw, ← channelWord_of_le _ hhigh, bodySseq24, if_pos ((stopLegal_iff .adc24 stop).2 ⟨hlow, hhigh⟩),
    if_pos ((countLegal_iff stop count).2 hcount), underway_eq_acquiring]
  rfl

/-- A sequence up to the first transfer that is not answered one of these frames: `n` transfers are left, and `tail` is
what the oracle answers next. -/
theorem bodySseq24_after_frames (hlow : 1 ≤ stop.toNat) (hhigh : stop.toNat ≤ 15)
    (hcount : count.toNat = stop.toNat + 1) (hcw : cw = s.cfg.baseSeq ||| BitVec.ofNat 12 (stop.toNat * 64))
    (hlen : frames.length + n = stop.toNat + 1)
    (h : gets s (controlEvent s.cfg cw (some stale) :: (transfers s frames ++ tail)) = true) :
    getsAfter s (controlEvent s.cfg cw (some stale) :: transfers s frames) tail = true ∧
      bodySseq24 stop count (underway s w []) =
        orIoError (readLoop24 n (BitVec.ofNat 8 frames.length) (afterTransfers s w .sequencing cw stale frames))
          fun u _ => finish .ok 0 count { u with st := .idle } := by
  obtain ⟨hwrite, hrest⟩ := gets_cons.1 h
  obtain ⟨hreads, htail⟩ := getsAfter_append.1 hrest
  have hloop := readLoop24_afterTransfers (before := []) (w := w) (n := n) hreads
  rw [hlen, ← hcount] at hloop
  rw [bodySseq24_inRange hlow hhigh hcount hcw, orIoError_control_answered hwrite]
  exact ⟨htail, congrArg (orIoError · _) hloop⟩

/-- R92: one-operand SSEQ on ADC24 is SSEQ with count stop + 1, so both run the one body. -/
theorem exec_sseq24_eq (hi : i = .sseq24 stop count ∨ i = .sseqStop stop) (hcount : count.toNat = stop.toNat + 1)
    (hbusy : s.busy = false) (hfam : s.family = .adc24) :
    exec i s = .next (bodySseq24 stop count (underway s (encodeWord i) [])) := by
  have hstop : stop + 1 = count := by bv_omega
  have hown : (underway s (encodeWord (.sseqStop stop)) []).family = .adc24 := hfam
  obtain rfl | rfl := hi <;> rw [exec_eq_commandBody (by simp [Instr.kind]) hbusy (by rw [hfam]; rfl), commandBody]
  rw [bodySseqStop, hown, hstop]

end Sequence

/-- Settles O43: every transfer gives its record, and the sequence finishes with no further exchange. -/
theorem sseq24DeliversEveryFrame : Obligations.Sseq24DeliversEveryFrame := by
  unfold Obligations.Sseq24DeliversEveryFrame
  intro s i stop count frames d hi hbusy hfam hlow hhigh hcount hlen cw evs hgets
  have hn : count = BitVec.ofNat 8 (records24 s frames).length := by
    rw [length_records24, hlen, ← hcount, BitVec.ofNat_toNat, BitVec.setWidth_eq]
  have hall : gets s (controlEvent s.cfg cw (some d) :: (transfers s frames ++ [])) = true := by
    rwa [List.append_nil]
  obtain ⟨-, hbody⟩ := bodySseq24_after_frames (n := 0) hlow hhigh hcount rfl hlen hall
  rw [exec_sseq24_eq hi hcount hbusy hfam, hbody]
  exact congrArg _ (finish_acquiring (s := { controlling s .sequencing cw frames with st := .idle }) .ok 0 hn)

/-- Settles O44: a failed control write raises before any transfer, and a failed transfer ends the loop with the records
of the frames before it. -/
theorem sseq24AbortsAtAFailure : Obligations.Sseq24AbortsAtAFailure := by
  unfold Obligations.Sseq24AbortsAtAFailure
  intro s stop count frames d hbusy hfam hlow hhigh hcount cw w
  rw [exec_sseq24_eq (.inl rfl) hcount hbusy hfam]
  constructor
  · intro hgets
    rw [bodySseq24_inRange hlow hhigh hcount rfl]
    exact congrArg _ (orIoError_control_failed hgets)
  · intro hlen evs hgets
    obtain ⟨n, hn⟩ : ∃ n, frames.length + (n + 1) = stop.toNat + 1 := ⟨stop.toNat - frames.length, by omega⟩
    obtain ⟨hrest, hbody⟩ := bodySseq24_after_frames hlow hhigh hcount rfl hn hgets
    obtain ⟨hread, -⟩ := getsAfter_cons.1 hrest
    rw [hbody, readLoop24, frame24_afterTransfers_failed hread]
    exact congrArg _ raise_ioError_controlling

end Sys2Proof.Machine

/-! PROOFS for spec/44_converter.md: the converter (R190 to R196) and TOMV (R192). The model's quotient is the library's
quotient truncated toward zero. From that come the four facts that the statements are read off: the converter is odd and
monotonic, gives k times the range at k times full scale, and brackets the exact quotient. -/

namespace Sys2Proof.Machine

section Converter
variable {v v' : Int} {res : Resolution} {vr : Nat}

/-! ### The quotient (R14) -/

theorem tdiv_eq_int_tdiv (a b : Int) : tdiv a b = a.tdiv b := by
  unfold tdiv
  split
  case isTrue ha => exact (Int.tdiv_eq_ediv_of_nonneg ha).symm
  case isFalse ha => rw [← Int.tdiv_eq_ediv_of_nonneg (by omega), Int.neg_tdiv, neg_neg]

theorem fullScale_pos (res : Resolution) : 0 < fullScale res := by
  cases res <;> decide

theorem toMv_eq_tdiv (v : Int) (res : Resolution) (vr : Nat) : toMv v res vr = (v * vr).tdiv (fullScale res) :=
  tdiv_eq_int_tdiv ..

/-! ### The properties of R195 -/

/-- R195 (d). -/
theorem toMv_neg (v : Int) (res : Resolution) (vr : Nat) : toMv (-v) res vr = -toMv v res vr := by
  simp only [toMv_eq_tdiv, Int.neg_mul, Int.neg_tdiv]

/-- R195 (a). -/
theorem toMv_mono (h : v ≤ v') : toMv v res vr ≤ toMv v' res vr := by
  simp only [toMv_eq_tdiv]
  exact Int.tdiv_le_tdiv (fullScale_pos res) (Int.mul_le_mul_of_nonneg_right h (Int.natCast_nonneg vr))

/-- R195 (b) and (c) at once: no multiple of full scale is truncated. -/
theorem toMv_mul_fullScale (k : Int) (res : Resolution) (vr : Nat) : toMv (k * fullScale res) res vr = k * vr := by
  rw [toMv_eq_tdiv, Int.mul_right_comm, Int.mul_tdiv_cancel _ (fullScale_pos res).ne']

@[simp] theorem toMv_zero (res : Resolution) (vr : Nat) : toMv 0 res vr = 0 := by
  simpa using toMv_mul_fullScale 0 res vr

theorem toMv_fullScale (res : Resolution) (vr : Nat) : toMv (fullScale res) res vr = vr := by
  simpa using toMv_mul_fullScale 1 res vr

/-- R193 for a code that is not negative, where truncation is the floor. -/
theorem toMv_truncates_of_nonneg (hv : 0 ≤ v) :
    0 ≤ toMv v res vr ∧ toMv v res vr * fullScale res ≤ v * vr ∧ v * vr < (toMv v res vr + 1) * fullScale res := by
  have hfs := fullScale_pos res
  have hprod : 0 ≤ v * vr := Int.mul_nonneg hv (Int.natCast_nonneg vr)
  rw [toMv_eq_tdiv, Int.tdiv_eq_ediv_of_nonneg hprod]
  exact ⟨Int.ediv_nonneg hprod hfs.le, Int.ediv_mul_le _ hfs.ne', Int.lt_ediv_add_one_mul_self _ hfs⟩

/-- R193 for a code that is not positive: the mirror image, by oddness. -/
theorem toMv_truncates_of_nonpos (hv : v ≤ 0) :
    toMv v res vr ≤ 0 ∧ v * vr ≤ toMv v res vr * fullScale res ∧ (toMv v res vr - 1) * fullScale res < v * vr := by
  obtain ⟨hsign, hle, hlt⟩ := toMv_truncates_of_nonneg (res := res) (vr := vr) (Int.neg_nonneg.2 hv)
  rw [toMv_neg] at hsign hle hlt
  refine ⟨?_, ?_, ?_⟩ <;> linarith

/-! ### The codes of a register -/

/-- The code of any 16-bit pattern stays within nine full scales of its resolution: in 12-bit mode the pattern is
signed, so that it goes down to -32768, beyond eight times 4095. -/
theorem codeValue_bounds (raw : Half) (res : Resolution) :
    -9 * fullScale res ≤ codeValue raw res ∧ codeValue raw res ≤ 9 * fullScale res := by
  cases res with
  | bits12 =>
    have hlow : -32768 ≤ raw.toInt := raw.le_toInt
    have hhigh : raw.toInt < 32768 := raw.toInt_lt
    simp only [fullScale, codeValue]
    omega
  | bits16 =>
    have hlt : raw.toNat < 65536 := raw.isLt
    simp only [fullScale, codeValue]
    omega

theorem toMv_codeValue_bounds (raw : Half) (res : Resolution) (vr : Nat) :
    -9 * (vr : Int) ≤ toMv (codeValue raw res) res vr ∧ toMv (codeValue raw res) res vr ≤ 9 * (vr : Int) := by
  obtain ⟨hlow, hhigh⟩ := codeValue_bounds raw res
  rw [← toMv_mul_fullScale (-9) res, ← toMv_mul_fullScale 9 res]
  exact ⟨toMv_mono hlow, toMv_mono hhigh⟩

/-- The upper bound that R10 puts on either family's range. -/
theorem vrange_le_of_ok {cfg : Cfg} (h : cfg.ok = true) (fam : Family) : vrange cfg fam ≤ 100000000 := by
  simp only [Cfg.ok, Bool.and_eq_true, decide_eq_true_eq] at h
  obtain ⟨⟨⟨-, h20⟩, -⟩, h24⟩ := h
  cases fam
  · exact h20
  · exact h24

/-- SignExt24 (R174) is the sign extension of two's complement. -/
theorem signExt24_eq_signExtend (code : BitVec 12) : signExt24 code = code.signExtend 16 := by
  have hmsb : code.msb = code.getLsbD 11 := code.msb_eq_getLsbD_last
  cases hbit : code.getLsbD 11 with
  | false =>
    rw [signExt24, if_neg (Bool.eq_false_iff.1 hbit), BitVec.signExtend_eq_setWidth_of_msb_false (hmsb.trans hbit)]
  | true =>
    rw [signExt24, if_pos hbit]
    apply BitVec.eq_of_getElem_eq
    intro i hi
    interval_cases i <;> simp [BitVec.getElem_signExtend, hmsb, hbit]

theorem toInt_signExt24 (code : BitVec 12) : (signExt24 code).toInt = code.toInt := by
  rw [signExt24_eq_signExtend, BitVec.toInt_signExtend_of_le (by decide)]

end Converter

/-! ### The statements -/

/-- Settles O57: the two signs are the two lemmas on truncation. -/
theorem converterTruncatesTowardZero : Obligations.ConverterTruncatesTowardZero := by
  unfold Obligations.ConverterTruncatesTowardZero
  intro v res vr
  cases res <;> exact ⟨toMv_truncates_of_nonneg, toMv_truncates_of_nonpos⟩

/-- Settles O58: one lemma for each property of R195. -/
theorem converterIsMonotonicAndOdd : Obligations.ConverterIsMonotonicAndOdd := by
  unfold Obligations.ConverterIsMonotonicAndOdd
  intro v v' res vr
  refine ⟨toMv_mono, toMv_zero res vr, ?_, toMv_neg v res vr⟩
  cases res with
  | bits12 => exact toMv_fullScale .bits12 vr
  | bits16 => exact toMv_fullScale .bits16 vr

/-- Settles O59: nine ranges of at most 10^8 stay below 2^31. -/
theorem millivoltsFitTheirRegister : Obligations.MillivoltsFitTheirRegister := by
  unfold Obligations.MillivoltsFitTheirRegister
  intro cfg fam raw res hok
  obtain ⟨hlow, hhigh⟩ := toMv_codeValue_bounds raw res (vrange cfg fam)
  have hrange := vrange_le_of_ok hok fam
  exact BitVec.toInt_ofInt_eq_self (by decide) (by omega) (by omega)

/-- Settles O60: SignExt24 keeps the code's value, 0x800 and 0x7FF are the least and the greatest 12-bit value, and the
converter is monotonic. -/
theorem adc24SignsAreThoseOfTheCode : Obligations.Adc24SignsAreThoseOfTheCode := by
  unfold Obligations.Adc24SignsAreThoseOfTheCode
  refine ⟨fun code vr => ?_, toMv_zero .bits12, by decide, by decide⟩
  simp only [toInt_signExt24]
  exact ⟨toMv_mono code.toInt_le, toMv_mono code.le_toInt⟩

/-- Settles O45: TOMV's body is `finish` with the code's millivolts, and issues no exchange. -/
theorem tomvConvertsItsCode : Obligations.TomvConvertsItsCode := by
  unfold Obligations.TomvConvertsItsCode
  intro s res code16 hbusy
  rw [exec_eq_commandBody (by simp [Instr.kind]) hbusy (by simp [rowLegal, Instr.kind, Instr.onFamily])]
  have hbody : commandBody (.tomv res code16) (underway s (encodeWord (.tomv res code16)) []) =
      completed s (encodeWord (.tomv res code16)) .ok (millivolts s.cfg s.family code16 res) [] [] :=
    finish_underway ..
  rw [hbody, millivolts]
  cases res <;> cases s.family <;> rfl

end Sys2Proof.Machine

/-! PROOFS for spec/45_channel_id_validator.md: CHKID (R203). The validator's check is asserted, so R201 leaves only the
comparison of the nibble with the expected channel; both are read as numbers, so a channel above 15 matches no nibble. -/

namespace Sys2Proof.Machine

/-- R201 with CHIDV = 1, as CHKID asks it. -/
theorem chidOk_true_iff (nib : BitVec 4) (expected : Byte) :
    chidOk true nib expected = true ↔ nib.toNat = expected.toNat := by
  rw [chidOk_iff, forall_prop_of_true rfl]

/-- The body of CHKID finishes with the comparison: it issues no exchange and delivers no record. -/
theorem bodyChkid_underway (expected : Byte) (nib : BitVec 4) (s : State) (w : Word) :
    bodyChkid expected nib (underway s w []) =
      completed s w .ok (if nib.toNat = expected.toNat then 1 else 0) [] [] := by
  simp only [bodyChkid, chidOk_true_iff, finish_underway]

/-- Settles O46: an idle block of either family runs CHKID's body. -/
theorem chkidCompares : Obligations.ChkidCompares := by
  unfold Obligations.ChkidCompares
  intro s expected nib hbusy
  have hlegal : rowLegal (.chkid expected nib) s.family = true := by simp [rowLegal, Instr.kind, Instr.onFamily]
  rw [exec_eq_commandBody (by simp [Instr.kind]) hbusy hlegal]
  exact congrArg _ (bodyChkid_underway expected nib s _)

end Sys2Proof.Machine

/-! PROOFS for spec/60_exceptions.md: the errors (R210 to R218). `Justified` is what each status of a completed command
says about it; it is followed through the bodies once. What the errors leave is read off the endings of a command. -/

namespace Sys2Proof.Machine

/-! ### Command words at the port (R80, R213, R218) -/

section Step
variable {s : State} {w : Word} {rest : List Request} {i : Instr}

theorem takeRequest_eq {r : Request} (hport : s.port = r :: rest) : takeRequest s = { s with port := rest } := by
  simp [takeRequest, hport]

theorem step_decoded_word (hport : s.port = .code (.word w) :: rest) (hd : decodeWord s.family w = .ok i) :
    step s = exec i { s with port := rest } := by
  simp [step, hport, decodeCode, hd, takeRequest_eq hport]

theorem step_undecodable_word {e : Reject} (hport : s.port = .code (.word w) :: rest)
    (hd : decodeWord s.family w = .error e) : step s = illegalWord w { s with port := rest } := by
  simp [step, hport, decodeCode, hd, takeRequest_eq hport, undecodable]

/-- R213: IllegalCommand is raised at acceptance, before anything else has happened. -/
theorem raise_illegalCommand_accept (w : Word) (s : State) :
    raise .illegalCommand (accept w s) = completed s w .illegalCommand 0 [] [] := by
  rw [accept_eq_underway]
  exact finish_underway ..

theorem illegalWord_idle (w : Word) (hbusy : s.busy = false) :
    illegalWord w s = .next (completed s w .illegalCommand 0 [] []) := by
  rw [illegalWord, command_idle _ _ _ hbusy, if_neg Bool.false_ne_true, raise_illegalCommand_accept]

theorem reservedWord_of_opcode {n : Nat} (h : (opcField w).toNat = n) :
    reservedWord (BitVec.ofNat 4 n) (restField w) = w := by
  rw [← h, BitVec.ofNat_toNat, BitVec.setWidth_eq, reservedWord_fields]

/-- A reserved row keeps the whole word it was decoded from (R86). -/
theorem encodeWord_of_reserved {fam : Family} (hd : decodeWord fam w = .ok i) (hk : i.kind = .reserved) :
    encodeWord i = w := by
  unfold decodeWord at hd
  split at hd
  case h_8 =>
    split at hd
    · cases (decodeCommand_kind hd).symm.trans hk
    · cases hd
  all_goals
    cases hd
    exact reservedWord_of_opcode (by assumption)

end Step

/-- Settles O9: an Illegal word, whether it decodes to nothing or to a reserved row, ends at its acceptance. -/
theorem illegalWordCompletesIllegalCommand : Obligations.IllegalWordCompletesIllegalCommand := by
  unfold Obligations.IllegalWordCompletesIllegalCommand
  rintro s w rest hbusy hport (⟨e, hd⟩ | ⟨i, hd, hk⟩)
  · rw [step_undecodable_word hport hd]
    exact illegalWord_idle (s := { s with port := rest }) w hbusy
  · have hillegal : ¬ rowLegal i s.family = true := by simp [rowLegal, hk]
    rw [step_decoded_word hport hd, exec_of_illegal (s := { s with port := rest }) (by simp [hk]) hbusy hillegal,
      encodeWord_of_reserved hd hk, raise_illegalCommand_accept]

/-- Settles O15: a reset is taken by an idle block, a word that decodes is a command, which responds (O16), and any
other word completes with IllegalCommand. -/
theorem noErrorStopsTheBlock : Obligations.NoErrorStopsTheBlock := by
  unfold Obligations.NoErrorStopsTheBlock
  intro s r rest hbusy hport hwire
  rcases r with (w | ⟨sh, v⟩) | _
  · cases hd : decodeWord s.family w with
    | error e =>
      exact ⟨_, (step_undecodable_word hport hd).trans (illegalWord_idle (s := { s with port := rest }) w hbusy),
        rfl, rfl⟩
    | ok i =>
      obtain ⟨t, hexec, hidle, -, -, -, -, -, hrest, -⟩ :=
        everyCommandRespondsOnce i { s with port := rest } (decodeWord_kind_ne_wireFrame hd) hbusy
      exact ⟨t, (step_decoded_word hport hd).trans hexec, hidle, hrest⟩
  · exact absurd rfl (hwire sh v)
  · exact ⟨blockReset { s with port := rest },
      by simp [step, hport, takeRequest_eq hport, resetRequest, hbusy], rfl, rfl⟩

/-! ### Operands out of range (R211) -/

section OutOfRange
variable {fam : Family} {i : Instr} {u : State} {stop count : Byte}

theorem outOfRange_sseq20_iff :
    outOfRange fam (.sseq20 stop count) ↔ ¬ (stopLegal .adc20 stop = true ∧ countLegal stop count = true) := by
  simp only [stopLegal_iff, countLegal_iff, maxChannel, outOfRange]
  omega

theorem outOfRange_sseq24_iff :
    outOfRange fam (.sseq24 stop count) ↔ ¬ (stopLegal .adc24 stop = true ∧ countLegal stop count = true) := by
  simp only [stopLegal_iff, countLegal_iff, maxChannel, outOfRange]
  omega

/-- R92: a one-operand SSEQ has the range of the SSEQ with count stop + 1, on either family. -/
theorem outOfRange_sseqStop_iff :
    outOfRange fam (.sseqStop stop) ↔ ¬ (stopLegal fam stop = true ∧ countLegal stop (stop + 1) = true) := by
  have hcount : (stop + 1).toNat = (stop.toNat + 1) % 256 := BitVec.toNat_add ..
  have hmax : maxChannel fam ≤ 15 := by cases fam <;> simp [maxChannel]
  simp only [stopLegal_iff, countLegal_iff, outOfRange]
  omega

theorem bodySseq20_outOfRange (h : ¬ (stopLegal .adc20 stop = true ∧ countLegal stop count = true)) :
    bodySseq20 stop count u = raise .invalidArgument u :=
  (ite_and ..).symm.trans (if_neg h)

theorem bodySseq24_outOfRange (h : ¬ (stopLegal .adc24 stop = true ∧ countLegal stop count = true)) :
    bodySseq24 stop count u = raise .invalidArgument u :=
  (ite_and ..).symm.trans (if_neg h)

/-- R214: the argument checks come before anything else a body does. -/
theorem commandBody_outOfRange (h : outOfRange u.family i) : commandBody i u = raise .invalidArgument u := by
  cases i with
  | setavg ratio | modecfgRatio ratio => exact bodySetavg_illegal h u
  | sman20 ch => exact bodySman20_outOfRange h u
  | sman24 ch => exact bodySman24_outOfRange h u
  | sseq20 stop count => exact bodySseq20_outOfRange (outOfRange_sseq20_iff.1 h)
  | sseq24 stop count => exact bodySseq24_outOfRange (outOfRange_sseq24_iff.1 h)
  | sseqStop stop =>
    rw [outOfRange_sseqStop_iff] at h
    cases hfam : u.family <;> rw [hfam] at h <;> simp only [commandBody, bodySseqStop, hfam]
    case adc20 => exact bodySseq20_outOfRange h
    case adc24 => exact bodySseq24_outOfRange h
  | _ => cases h

/-- Only rows that some block runs have a range. -/
theorem kind_ne_reserved_of_outOfRange (h : outOfRange fam i) : i.kind ≠ .reserved := by
  cases i with
  | illegalOpc0 _ | illegalOpcA _ | illegalOpcB _ | illegalOpcC _ | illegalOpcD _ | illegalOpcE _ | illegalOpcF _ =>
    cases h
  | _ => simp [Instr.kind]

end OutOfRange

/-! ### What a status says of the command (R210) -/

/-- What must hold for the row `i`, accepted in `s`, to complete with each status (R210, R211, R213, R215). OK and
IoError are left to the oracle. -/
def Justified (i : Instr) (s : State) : Status → Prop
  | .ok | .ioError => True
  | .invalidArgument => outOfRange s.family i
  | .protocolDesync => s.family = .adc20 ∧ s.chidEn = true
  | .illegalCommand => ¬ rowLegal i s.family = true

section Justified
variable {i j : Instr} {s u : State} {e : Status} {stop count : Byte}

theorem justified_orIoError {α : Type} {r : State × Option α} {k : State → α → State}
    (hk : ∀ a, r.2 = some a → Justified i s (k r.1 a).status) : Justified i s (orIoError r k).status :=
  orIoError_keeps (P := fun t => Justified i s t.status) trivial hk

/-- A status that one row may give, so may another that runs on the block and whose range is no wider. -/
theorem Justified.transfer (h : Justified i s e) (hlegal : rowLegal i s.family = true)
    (hrange : outOfRange s.family i → outOfRange s.family j) : Justified j s e := by
  cases e with
  | ok | ioError | protocolDesync => exact h
  | invalidArgument => exact hrange h
  | illegalCommand => exact absurd hlegal h

theorem frame20_keeps (u : State) : (frame20 u).1.chidEn = u.chidEn ∧ (frame20 u).1.pend = u.pend := by
  obtain ⟨-, hframe⟩ | ⟨rx, -, hframe⟩ := frame20_cases u <;> rw [hframe] <;> exact ⟨rfl, rfl⟩

/-- R143: a frame carries a channel ID exactly where CHID_EN is set. -/
theorem frame20_chidv {fr : Frame} (h : (frame20 u).2 = some fr) : fr.chidv = u.chidEn := by
  obtain ⟨-, hframe⟩ | ⟨rx, -, hframe⟩ := frame20_cases u <;> rw [hframe] at h <;> cases h
  exact decodeFrame20_chidv ..

/-- R215: the channel-ID check fails only on an ADC20 block with CHID_EN = 1. -/
theorem justified_of_mismatch {fr : Frame} {k : Byte} (hfam : s.family = .adc20) (hfr : (frame20 u).2 = some fr)
    (hchidEn : u.chidEn = s.chidEn) (hbad : ¬ chidOk fr.chidv fr.chid k = true) :
    Justified i s .protocolDesync := by
  obtain ⟨hchidv, -⟩ := Classical.not_imp.1 (mt (chidOk_iff ..).2 hbad)
  exact ⟨hfam, hchidEn.symm.trans ((frame20_chidv hfr).symm.trans hchidv)⟩

theorem justified_bodySetavg {ratio : Byte} : Justified (.setavg ratio) s (bodySetavg ratio s).status := by
  unfold bodySetavg
  split
  case isTrue => exact justified_orIoError fun _ _ => trivial
  case isFalse hratio => exact Nat.not_le.1 (mt (ratioLegal_iff ratio).2 hratio)

theorem justified_bodySman20 {ch : Byte} (hfam : s.family = .adc20) :
    Justified (.sman20 ch) s (bodySman20 ch s).status := by
  unfold bodySman20
  split
  case isFalse hch => exact Nat.not_le.1 (mt (channelLegal_iff .adc20 ch).2 hch)
  case isTrue =>
    refine justified_orIoError fun _ _ => justified_orIoError fun _ _ => justified_orIoError fun fr hfr => ?_
    split
    case isTrue => trivial
    case isFalse hbad => exact justified_of_mismatch hfam hfr rfl hbad

theorem justified_bodySman24 {ch : Byte} : Justified (.sman24 ch) s (bodySman24 ch s).status := by
  unfold bodySman24
  split
  case isTrue => exact justified_orIoError fun _ _ => justified_orIoError fun _ _ => trivial
  case isFalse hch => exact Nat.not_le.1 (mt (channelLegal_iff .adc24 ch).2 hch)

/-! ### The error that a sequence records in PEND (R153, R217) -/

theorem justified_readLoop20 (hfam : s.family = .adc20) (n : Nat) (k : Byte) (hchidEn : u.chidEn = s.chidEn)
    (hpend : Justified i s u.pend) : Justified i s (readLoop20 n k u).pend := by
  induction n generalizing k u with
  | zero => exact hpend
  | succ n ih =>
    obtain ⟨hchidEn', hpend'⟩ := frame20_keeps u
    rcases hframe : frame20 u with ⟨v, _ | fr⟩ <;> rw [hframe] at hchidEn' hpend' <;> simp only [readLoop20, hframe]
    case none => trivial
    case some =>
      split
      case isTrue => exact ih _ (hchidEn'.trans hchidEn) (hpend'.symm ▸ hpend)
      case isFalse hbad => exact justified_of_mismatch hfam (congrArg Prod.snd hframe) hchidEn hbad

theorem justified_startAndRead20 (hfam : s.family = .adc20) (hchidEn : u.chidEn = s.chidEn)
    (hpend : Justified i s u.pend) : Justified i s (startAndRead20 count u).pend := by
  have hchidEn' : (regWrite20 u.cfg.regSeqMode u.cfg.valSeqStart u).1.chidEn = s.chidEn := hchidEn
  have hpend' : Justified i s (regWrite20 u.cfg.regSeqMode u.cfg.valSeqStart u).1.pend := hpend
  unfold startAndRead20
  split <;> rename_i hstart <;> rw [hstart] at hchidEn' hpend'
  · trivial
  · exact justified_readLoop20 hfam _ _ hchidEn' hpend'

theorem justified_stopWrite20 (hpend : Justified i s u.pend) : Justified i s (stopWrite20 u).pend := by
  rw [stopWrite20_eq]
  dsimp only
  split
  · trivial
  · exact hpend

/-- PEND is the status a sequence completes with. -/
theorem endSequence20_status (count : Byte) (u : State) : (endSequence20 count u).status = u.pend := by
  unfold endSequence20
  split
  case isTrue hok => exact hok.symm
  case isFalse => exact raise_status ..

theorem justified_bodySseq20 (hfam : s.family = .adc20) :
    Justified (.sseq20 stop count) s (bodySseq20 stop count s).status := by
  by_cases hlegal : stopLegal .adc20 stop = true ∧ countLegal stop count = true
  case neg =>
    rw [bodySseq20_outOfRange hlegal]
    exact (outOfRange_sseq20_iff (fam := s.family)).2 hlegal
  obtain ⟨hstop, hcount⟩ := hlegal
  rw [bodySseq20, if_pos hstop, if_pos hcount]
  refine justified_orIoError fun _ _ => ?_
  rw [endSequence20_status]
  exact justified_stopWrite20 (justified_startAndRead20 hfam rfl trivial)

theorem justified_bodySseq24 : Justified (.sseq24 stop count) s (bodySseq24 stop count s).status := by
  by_cases hlegal : stopLegal .adc24 stop = true ∧ countLegal stop count = true
  case neg =>
    rw [bodySseq24_outOfRange hlegal]
    exact (outOfRange_sseq24_iff (fam := s.family)).2 hlegal
  obtain ⟨hstop, hcount⟩ := hlegal
  rw [bodySseq24, if_pos hstop, if_pos hcount]
  exact justified_orIoError fun _ _ => justified_orIoError fun _ _ => trivial

/-- R92: one-operand SSEQ has the errors of the SSEQ of the block's family with count stop + 1. -/
theorem justified_bodySseqStop : Justified (.sseqStop stop) s (bodySseqStop stop s).status := by
  unfold bodySseqStop
  split <;> rename_i hfam
  · refine (justified_bodySseq20 hfam).transfer (by rw [hfam]; rfl) ?_
    rw [outOfRange_sseqStop_iff, outOfRange_sseq20_iff, hfam]
    exact id
  · refine justified_bodySseq24.transfer (by rw [hfam]; rfl) ?_
    rw [outOfRange_sseqStop_iff, outOfRange_sseq24_iff, hfam]
    exact id

/-! ### Every command -/

theorem commandBody_justified (hk : i.kind ≠ .wireFrame) (hlegal : rowLegal i s.family = true) :
    Justified i s (commandBody i s).status := by
  cases i with
  | init20 chid =>
    exact justified_orIoError fun _ _ => justified_orIoError fun _ _ => justified_orIoError fun _ _ => trivial
  | init24 | rreg addr | readraw addr => exact justified_orIoError fun _ _ => justified_orIoError fun _ _ => trivial
  | wreg addr value | wctl word12 | modecfgWord12 word12 => exact justified_orIoError fun _ _ => trivial
  | tomv res code16 | chkid expected nib => trivial
  | setavg ratio => exact justified_bodySetavg
  | modecfgRatio ratio => exact justified_bodySetavg.transfer hlegal id
  | sman20 ch => exact justified_bodySman20 (family_of_rowLegal rfl hlegal)
  | sman24 ch => exact justified_bodySman24
  | sseq20 stop count => exact justified_bodySseq20 (family_of_rowLegal rfl hlegal)
  | sseq24 stop count => exact justified_bodySseq24
  | sseqStop stop => exact justified_bodySseqStop
  | illegalOpc0 _ | illegalOpcA _ | illegalOpcB _ | illegalOpcC _ | illegalOpcD _ | illegalOpcE _ | illegalOpcF _ =>
    cases hlegal
  | w20 _ _ | r20a _ | r20b | f20 | f20Rx12 _ _ _ | f20Rx16 _ _ _ | c24 _ | cw12Manual _ | cw12Seq _ | p24 | f24
  | f24Rx _ _ | mask20 _ => exact absurd rfl hk

/-- Why a command completed with its status, said once for every row. -/
theorem exec_justified {t : State} (hk : i.kind ≠ .wireFrame) (h : exec i s = .next t) : Justified i s t.status := by
  rw [exec_eq_command hk] at h
  obtain ⟨-, ⟨hlegal, rfl⟩ | ⟨hillegal, rfl⟩⟩ := command_next h
  · exact commandBody_justified (s := accept (encodeWord i) s) hk hlegal
  · exact Bool.eq_false_iff.1 hillegal

end Justified

/-- Settles O17: the two errors give up the session (O20) and leave the caches, which only OK moves; the records are
those of the command's progress; and a ProtocolDesync is a failed channel-ID check. -/
theorem fatalErrorsEndTheSession : Obligations.FatalErrorsEndTheSession := by
  unfold Obligations.FatalErrorsEndTheSession
  intro i s t hk h hfatal
  have hnotOk : t.status ≠ .ok := ne_ok_of_error hfatal
  obtain ⟨hidle, hinited⟩ : t.st = .idle ∧ t.inited = false := by
    have htable := acquisitionStateFollowsTheTable i s t hk h
    obtain hstatus | hstatus := hfatal <;> rwa [hstatus] at htable
  have hcaches : caches t = caches s := (exec_caches h).resolve_right fun ⟨hok, _⟩ => hnotOk hok
  obtain ⟨hosr, hchidEn⟩ := Prod.mk.inj hcaches
  obtain ⟨-, -, hresult⟩ := (exec_ending hk h).2.response
  obtain ⟨hp, -, hn⟩ := exec_progress hk h
  refine ⟨hidle, hinited, hosr, hchidEn, hresult hnotOk, hp.out, hn, fun hdesync => ?_, hp.last⟩
  have hjustified := exec_justified hk h
  rwa [hdesync] at hjustified

/-- Settles O18: a body checks its operands first, and an InvalidArgument is never given for another reason. -/
theorem invalidArgumentExactlyOutOfRange : Obligations.InvalidArgumentExactlyOutOfRange := by
  unfold Obligations.InvalidArgumentExactlyOutOfRange
  intro i s hk hrow hbusy
  refine ⟨fun hrange => ?_, fun t h hstatus => ?_⟩
  · have hlegal : rowLegal i s.family = true := by simp [rowLegal, hrow, kind_ne_reserved_of_outOfRange hrange]
    have hbody := commandBody_outOfRange (u := underway s (encodeWord i) []) hrange
    rw [exec_eq_commandBody hk hbusy hlegal, hbody, raise_invalidArgument_underway]
  · have hjustified := exec_justified hk h
    rwa [hstatus] at hjustified

end Sys2Proof.Machine

/-! PROOFS for spec/70_reset_and_hazards.md: reset (R240) and the number of exchanges of a command (R263). That number is
followed through the bodies by `IssuesIfOk`: an exchange that fails, and a channel-ID check that does, ends in an error,
so that a run that completes OK has passed every exchange of its body. -/

namespace Sys2Proof.Machine

/-! ### Reset (R240) -/

/-- A reset at the port of an idle block is taken, and nothing else happens. -/
theorem step_reset {s : State} {rest : List Request} (hbusy : s.busy = false) (hport : s.port = .reset :: rest) :
    step s = .next (blockReset { s with port := rest }) := by
  simp [step, hport, takeRequest_eq hport, resetRequest, hbusy]

/-- With nothing at the port the block waits. -/
theorem step_waits {s : State} (hport : s.port = []) : step s = .next s := by
  simp [step, hport]

/-- Settles O10: what reset leaves is `blockReset`, whose fields are the reset values, and its port is what stood behind
the reset. -/
theorem resetGivesTheResetValues : Obligations.ResetGivesTheResetValues := by
  unfold Obligations.ResetGivesTheResetValues
  intro s rest hbusy hport
  refine ⟨_, step_reset hbusy hport, ?_⟩
  simpa using fun hrest => step_waits (s := blockReset { s with port := rest }) hrest

/-! ### Counting the exchanges of a command (R263) -/

/-- If `t` has completed OK, it has issued `n` exchanges since `s`. -/
def IssuesIfOk (n : Nat) (s t : State) : Prop := t.status = .ok → t.trace.length = s.trace.length + n

section Counting
variable {m n : Nat} {s u : State}

theorem IssuesIfOk.of_finish (result : Word) (k : Byte) (htrace : u.trace = s.trace := by rfl) :
    IssuesIfOk 0 s (finish .ok result k u) := fun _ => congrArg List.length htrace

theorem IssuesIfOk.of_error {e : Status} (he : e ≠ .ok) : IssuesIfOk n s (raise e u) := fun hok =>
  absurd ((raise_status ..).symm.trans hok) he

/-- Where an answer costs `m` exchanges and the rest issues `n`, both are counted; IoError is no completion with OK. -/
theorem IssuesIfOk.of_orIoError {α : Type} {r : State × Option α} {k : State → α → State}
    (hr : ∀ a, r.2 = some a → r.1.trace.length = s.trace.length + m) (hk : ∀ v a, IssuesIfOk n v (k v a)) :
    IssuesIfOk (m + n) s (orIoError r k) :=
  orIoError_keeps (P := IssuesIfOk (m + n) s) (.of_error nofun) fun a ha hok => by
    rw [hk r.1 a hok, hr a ha, Nat.add_assoc]

theorem length_trace_xchg (tx : List Byte) (hold : Bool) (s : State) :
    (xchg tx hold s).1.trace.length = s.trace.length + 1 := by simp

theorem length_trace_frame20 (s : State) : (frame20 s).1.trace.length = s.trace.length + 1 := by
  obtain ⟨rx, htrace⟩ := frame20_trace s
  simp [htrace]

theorem length_trace_frame24 (s : State) : (frame24 s).1.trace.length = s.trace.length + 1 := by
  obtain ⟨-, h⟩ | ⟨rx, -, h⟩ := frame24_cases s <;> rw [h] <;> exact length_trace_xchg ..

/-- One exchange and then the rest. -/
theorem IssuesIfOk.of_exchange {α : Type} {r : State × Option α} {k : State → α → State}
    (hr : r.1.trace.length = s.trace.length + 1) (hk : ∀ v a, IssuesIfOk n v (k v a)) :
    IssuesIfOk (n + 1) s (orIoError r k) :=
  Nat.add_comm 1 n ▸ .of_orIoError (fun _ _ => hr) hk

theorem IssuesIfOk.of_xchg {tx : List Byte} {hold : Bool} {k : State → List Byte → State}
    (hk : ∀ v rx, IssuesIfOk n v (k v rx)) : IssuesIfOk (n + 1) s (orIoError (xchg tx hold s) k) :=
  .of_exchange (length_trace_xchg tx hold s) hk

/-! ### The bodies -/

theorem issuesIfOk_bodySetavg (ratio : Byte) (s : State) : IssuesIfOk 1 s (bodySetavg ratio s) := by
  unfold bodySetavg
  split
  · exact .of_xchg fun _ _ => .of_finish _ _
  · exact .of_error nofun

/-- R150: the channel write, the dummy cycle, the read. -/
theorem issuesIfOk_bodySman20 (ch : Byte) (s : State) : IssuesIfOk 3 s (bodySman20 ch s) := by
  unfold bodySman20
  split
  case isFalse => exact .of_error nofun
  case isTrue =>
    refine .of_xchg (s := { s with st := .manual }) fun _ _ => .of_xchg fun v _ =>
      .of_exchange (length_trace_frame20 v) fun _ _ => ?_
    split
    · exact .of_finish _ _
    · exact .of_error nofun

/-- R175: the control write and the transfer. -/
theorem issuesIfOk_bodySman24 (ch : Byte) (s : State) : IssuesIfOk 2 s (bodySman24 ch s) := by
  unfold bodySman24
  split
  · exact .of_xchg (s := latchCw _ { s with st := .manual }) fun v _ =>
      .of_exchange (length_trace_frame24 v) fun _ _ => .of_finish _ _
  · exact .of_error nofun

/-- The read cycles of an ADC20 sequence: each is one exchange, and PEND stays clear only where all were passed. -/
theorem length_trace_readLoop20 (n : Nat) (i : Byte) (s : State) (hpend : (readLoop20 n i s).pend = .ok) :
    (readLoop20 n i s).trace.length = s.trace.length + n := by
  induction n generalizing i s with
  | zero => rfl
  | succ n ih =>
    have hlen := length_trace_frame20 s
    rcases hframe : frame20 s with ⟨v, _ | fr⟩ <;> rw [hframe] at hlen <;> simp only [readLoop20, hframe] at hpend ⊢
    case none => cases hpend
    case some =>
      split at hpend
      case isTrue hid => rw [if_pos hid, ih _ _ hpend, emit_trace, hlen, Nat.add_right_comm, Nat.add_assoc]
      case isFalse => cases hpend

theorem length_trace_startAndRead20 (count : Byte) (s : State) (hpend : (startAndRead20 count s).pend = .ok) :
    (startAndRead20 count s).trace.length = s.trace.length + (count.toNat + 1) := by
  have hlen : (regWrite20 s.cfg.regSeqMode s.cfg.valSeqStart s).1.trace.length = s.trace.length + 1 :=
    length_trace_xchg ..
  unfold startAndRead20 at hpend ⊢
  split at hpend <;> rename_i hstart <;> rw [hstart] at hlen
  · cases hpend
  · rw [length_trace_readLoop20 _ _ _ hpend, hlen, Nat.add_right_comm, Nat.add_assoc]

/-- The stop write clears no error of the reads (R217). -/
theorem pend_of_stopWrite20_ok (h : (stopWrite20 s).pend = .ok) : s.pend = .ok := by
  rw [stopWrite20_eq] at h
  dsimp only at h
  split at h
  · cases h
  · exact h

/-- R153, from the start write on: the start write, `count` read cycles, the stop write. -/
theorem issuesIfOk_startToEnd (count : Byte) (s : State) :
    IssuesIfOk (count.toNat + 2) s (endSequence20 count (stopWrite20 (startAndRead20 count s))) := by
  intro hok
  rw [endSequence20_status] at hok
  obtain ⟨rx, hstop⟩ := stopWrite20_trace (startAndRead20 count s)
  rw [endSequence20_trace, hstop, List.length_append, List.length_singleton,
    length_trace_startAndRead20 count s (pend_of_stopWrite20_ok hok), Nat.add_assoc]

theorem issuesIfOk_bodySseq20 (stop count : Byte) (s : State) :
    IssuesIfOk (count.toNat + 3) s (bodySseq20 stop count s) := by
  unfold bodySseq20
  split
  case isFalse => exact .of_error nofun
  split
  case isFalse => exact .of_error nofun
  exact .of_xchg (s := latchMask _ { s with st := .sequencing, pend := .ok }) fun v _ => issuesIfOk_startToEnd count v

/-- The read transfers of an ADC24 sequence: each is one exchange, and the loop answers only where all were. -/
theorem length_trace_readLoop24 (n : Nat) (i : Byte) (s : State) (a : Unit) (h : (readLoop24 n i s).2 = some a) :
    (readLoop24 n i s).1.trace.length = s.trace.length + n := by
  induction n generalizing i s with
  | zero => rfl
  | succ n ih =>
    have hlen := length_trace_frame24 s
    rcases hframe : frame24 s with ⟨v, _ | fr⟩ <;> rw [hframe] at hlen <;> simp only [readLoop24, hframe] at h ⊢
    case none => cases h
    case some => rw [ih _ _ h, emit_trace, hlen, Nat.add_right_comm, Nat.add_assoc]

/-- R178: the control write and `count` transfers. -/
theorem issuesIfOk_bodySseq24 (stop count : Byte) (s : State) :
    IssuesIfOk (count.toNat + 1) s (bodySseq24 stop count s) := by
  unfold bodySseq24
  split
  case isFalse => exact .of_error nofun
  split
  case isFalse => exact .of_error nofun
  exact .of_xchg (s := latchCw _ { s with st := .sequencing }) fun v _ =>
    .of_orIoError (m := count.toNat) (n := 0) (length_trace_readLoop24 count.toNat 0 v) fun _ _ => .of_finish _ _

/-! ### Every command -/

theorem commandBody_issuesIfOk {i : Instr} (hk : i.kind = .command) (s : State) :
    IssuesIfOk (exchangeCount i) s (commandBody i s) := by
  cases i with
  | init20 chid => exact .of_xchg fun _ _ => .of_xchg fun _ _ => .of_xchg fun _ _ => .of_finish _ _
  | init24 | rreg addr => exact .of_xchg fun _ _ => .of_xchg fun _ _ => .of_finish _ _
  | wreg addr value | wctl word12 => exact .of_xchg fun _ _ => .of_finish _ _
  | tomv res code16 | chkid expected nib => exact .of_finish _ _
  | setavg ratio => exact issuesIfOk_bodySetavg ratio s
  | sman20 ch => exact issuesIfOk_bodySman20 ch s
  | sman24 ch => exact issuesIfOk_bodySman24 ch s
  | sseq20 stop count => exact issuesIfOk_bodySseq20 stop count s
  | sseq24 stop count => exact issuesIfOk_bodySseq24 stop count s
  | illegalOpc0 _ | illegalOpcA _ | illegalOpcB _ | illegalOpcC _ | illegalOpcD _ | illegalOpcE _ | illegalOpcF _
  | readraw _ | modecfgRatio _ | modecfgWord12 _ | sseqStop _
  | w20 _ _ | r20a _ | r20b | f20 | f20Rx12 _ _ _ | f20Rx16 _ _ _ | c24 _ | cw12Manual _ | cw12Seq _ | p24 | f24
  | f24Rx _ _ | mask20 _ => cases hk

end Counting

/-- Settles O23: a command that completes OK has run its row's body, and acceptance issues no exchange. -/
theorem exchangeCountsPerCommand : Obligations.ExchangeCountsPerCommand := by
  unfold Obligations.ExchangeCountsPerCommand
  intro i s t hk h hok
  rw [exec_eq_command (by simp [hk])] at h
  obtain ⟨-, ⟨-, rfl⟩ | ⟨-, rfl⟩⟩ := command_next h
  · have hlen := commandBody_issuesIfOk hk _ hok
    rw [accept_trace] at hlen
    rw [newEvents, List.length_drop, hlen, Nat.add_sub_cancel_left]
  · cases hok

end Sys2Proof.Machine

/-! PROOFS for spec/30_encoding.md: command words (R81 to R92), wire frames (R95 to R104) and packings (R89, R90). A
code is made of placed fields, so the facts about `place` come first: what a field reads of a placed value, and that a
value is its fields, each placed where it was read. The round trips of decoder and encoder rest on the two. -/

namespace Sys2Proof.Machine

/-! ### Fields -/

section Fields
variable {n lo start len width : Nat} {x : BitVec width}

theorem getLsbD_place (n lo : Nat) (x : BitVec width) (i : Nat) :
    (place n lo x).getLsbD i = (decide (i < n) && decide (lo ≤ i) && x.getLsbD (i - lo)) := by
  by_cases hi : i < n
  · rw [BitVec.getLsbD_eq_getElem hi, getElem_place]
    simp [hi]
  · rw [BitVec.getLsbD_of_ge _ _ (Nat.not_lt.1 hi)]
    simp [hi]

/-- What a field that is read gives of a value placed at or below it. -/
theorem extractLsb'_place (hlo : lo ≤ start) (hn : start + len ≤ n) :
    (place n lo x).extractLsb' start len = x.extractLsb' (start - lo) len := by
  apply BitVec.eq_of_getLsbD_eq
  intro i hi
  have hin : start + i < n := by omega
  have hge : lo ≤ start + i := by omega
  rw [BitVec.getLsbD_extractLsb', BitVec.getLsbD_extractLsb', getLsbD_place, Nat.sub_add_comm hlo]
  simp [hin, hge]

/-- A value placed above a field leaves it 0. -/
theorem extractLsb'_place_above (h : start + len ≤ lo) : (place n lo x).extractLsb' start len = 0#len := by
  apply BitVec.eq_of_getLsbD_eq
  intro i hi
  have hlt : ¬ lo ≤ start + i := by omega
  rw [BitVec.getLsbD_extractLsb', getLsbD_place]
  simp [hlt]

/-- Past the width of a value there is nothing. -/
theorem extractLsb'_past (h : width ≤ start) : x.extractLsb' start len = 0#len := by
  apply BitVec.eq_of_getLsbD_eq
  intro i hi
  rw [BitVec.getLsbD_extractLsb', BitVec.getLsbD_of_ge x _ (by omega)]
  simp

/-- A value placed twice, with room for all its bits, is placed once. -/
theorem place_place {m inner : Nat} (hfit : inner + width ≤ m) :
    place n lo (place m inner x) = place n (lo + inner) x := by
  apply BitVec.eq_of_getLsbD_eq
  intro i hi
  have hge : lo + inner ≤ i ↔ lo ≤ i ∧ inner ≤ i - lo := by omega
  simp only [getLsbD_place, hi, hge, Bool.decide_and, Nat.sub_add_eq, decide_true, Bool.true_and, Bool.and_assoc]
  rcases Nat.lt_or_ge (i - lo) m with him | him
  · simp [him]
  · rw [BitVec.getLsbD_of_ge x _ (by omega)]
    simp

/-- Two adjacent fields, each placed where it was read, are one field. -/
theorem place_or_place_adjacent (v : BitVec width) (lo len : Nat) :
    place n lo (v.extractLsb' lo len) ||| place n 0 (v.extractLsb' 0 lo) = place n 0 (v.extractLsb' 0 (lo + len)) := by
  apply BitVec.eq_of_getLsbD_eq
  intro i hi
  simp only [BitVec.getLsbD_or, getLsbD_place, BitVec.getLsbD_extractLsb']
  rcases Nat.lt_or_ge i lo with hlo | hlo
  · have hlen : i < lo + len := by omega
    simp [hi, hlo, hlen]
  · have hiff : i - lo < len ↔ i < lo + len := by omega
    simp [hi, hlo, hiff]

theorem place_self (v : BitVec width) : place width 0 v = v := by
  simp [place]

/-- A value is its three fields, each placed where it was read. -/
theorem place_three_fields (v : BitVec n) {mid : Nat} (hlo : lo ≤ mid) (hmid : mid ≤ n) :
    place n mid (v.extractLsb' mid (n - mid)) ||| place n lo (v.extractLsb' lo (mid - lo)) |||
      place n 0 (v.extractLsb' 0 lo) = v := by
  rw [BitVec.or_assoc, place_or_place_adjacent, Nat.add_sub_cancel' hlo, place_or_place_adjacent,
    Nat.add_sub_cancel' hmid, BitVec.extractLsb'_eq_self, place_self]

theorem place_or (x y : BitVec width) : place n lo (x ||| y) = place n lo x ||| place n lo y := by
  simp [place, BitVec.setWidth_or, BitVec.shiftLeft_or_distrib]

@[simp] theorem place_zero : place n lo (0#width) = 0#n := by
  simp [place]

/-- A field of a field. -/
theorem extractLsb'_extractLsb' {k : Nat} (v : BitVec n) (h : start + k ≤ len) :
    (v.extractLsb' lo len).extractLsb' start k = v.extractLsb' (lo + start) k := by
  apply BitVec.eq_of_getLsbD_eq
  intro i hi
  have hlt : start + i < len := by omega
  simp [hi, hlt, Nat.add_assoc]

/-- A value whose high field is 0 is its low field. -/
theorem place_low_of_high_eq_zero {v : BitVec n} (h : v.extractLsb' lo len = 0#len)
    (hn : lo + len = n) : place n 0 (v.extractLsb' 0 lo) = v := by
  have hadjacent := place_or_place_adjacent (n := n) v lo len
  rw [h, hn, BitVec.extractLsb'_eq_self, place_self] at hadjacent
  simpa [place] using hadjacent

/-- The field of one bit. -/
theorem extractLsb'_bit (v : BitVec n) : v.extractLsb' 0 1 = BitVec.ofBool (v.getLsbD 0) := by
  apply BitVec.eq_of_getLsbD_eq
  intro i hi
  obtain rfl : i = 0 := by omega
  simp

/-- Bits that a mask asks to be 0 are 0 in every field that it covers. -/
theorem extractLsb'_of_and_eq_zero {v mask : BitVec n} (h : v &&& mask = 0#n)
    (hmask : mask.extractLsb' start len = BitVec.allOnes len) : v.extractLsb' start len = 0#len := by
  have hfield := congrArg (BitVec.extractLsb' start len) h
  rwa [BitVec.extractLsb'_and, hmask, BitVec.and_allOnes, BitVec.extractLsb'_zero] at hfield

theorem eq_zero_of_and_eq_zero {v mask : BitVec n} (h : v &&& mask = 0#n)
    (hmask : mask = BitVec.allOnes n) : v = 0#n := by
  rwa [hmask, BitVec.and_allOnes] at h

end Fields

/-! ### Checks of the decoder -/

@[simp] theorem ofFamily_self (fam : Family) (r : Except Reject Instr) : ofFamily fam fam r = r := if_pos rfl

@[simp] theorem ifZero_true (i : Instr) : ifZero true i = .ok i := rfl

theorem ifZero_of_eq {n : Nat} {v v' : BitVec n} {i : Instr} (h : v = v') : ifZero (decide (v = v')) i = .ok i :=
  if_pos (decide_eq_true h)

@[simp] theorem ifFits_true (i : Instr) : ifFits true i = .ok i := rfl

theorem ifFits_eq_ok {fits : Bool} {i j : Instr} (h : ifFits fits i = .ok j) : fits = true ∧ j = i := by
  unfold ifFits at h
  split at h
  · cases h
    exact ⟨by assumption, rfl⟩
  · cases h

/-! ### Command words (R81 to R88) -/

section Words
variable {fam : Family} {w : Word} {i : Instr}

/-- A word whose opcode is not reserved is a command's, if RSV is 0. -/
theorem decodeWord_of_command_opcode (hlow : 1 ≤ (opcField w).toNat) (hhigh : (opcField w).toNat ≤ 9) :
    decodeWord fam w =
      if rsvField w = 0#4 then decodeCommand fam (opcField w).toNat (fieldA w) (fieldB w)
      else .error .reservedField := by
  unfold decodeWord
  split
  case h_8 => rfl
  all_goals omega

theorem decodeWord_packWord {opc : BitVec 4} (hlow : 1 ≤ opc.toNat) (hhigh : opc.toNat ≤ 9) (a : Byte) (b : Half) :
    decodeWord fam (packWord opc 0 a b) = decodeCommand fam opc.toNat a b := by
  rw [decodeWord_of_command_opcode] <;> simp [hlow, hhigh]

theorem decodeWord_encodeWord_of_command (hk : i.kind = .command) (hrow : i.onFamily fam = true) :
    decodeWord fam (encodeWord i) = .ok i := by
  cases i with
  | init20 _ | setavg _ | sman20 _ | sseq20 _ _ | wreg _ _ | rreg _ =>
    obtain rfl : fam = .adc20 := of_decide_eq_true hrow
    rw [encodeWord, decodeWord_packWord (by decide) (by decide)]
    simp (disch := omega) [decodeCommand, decodeInit, extractLsb'_place, extractLsb'_past, getElem_place]
  | init24 | sman24 _ | sseq24 _ _ | wctl _ =>
    obtain rfl : fam = .adc24 := of_decide_eq_true hrow
    rw [encodeWord, decodeWord_packWord (by decide) (by decide)]
    simp (disch := omega) [decodeCommand, decodeInit, extractLsb'_place, extractLsb'_past]
  | tomv res _ =>
    rw [encodeWord, decodeWord_packWord (by decide) (by decide)]
    cases res <;> rfl
  | chkid _ _ =>
    rw [encodeWord, decodeWord_packWord (by decide) (by decide)]
    simp (disch := omega) [decodeCommand, extractLsb'_place, extractLsb'_past]
  | _ => cases hk

theorem decodeWord_encodeWord_of_reserved (hk : i.kind = .reserved) : decodeWord fam (encodeWord i) = .ok i := by
  cases i with
  | illegalOpc0 _ | illegalOpcA _ | illegalOpcB _ | illegalOpcC _ | illegalOpcD _ | illegalOpcE _ | illegalOpcF _ =>
    simp [encodeWord, decodeWord]
  | _ => cases hk

/-- TOMV's resolution tag is the bit it was read from (R82). -/
theorem resolution_bit {n : Nat} (v : BitVec n) :
    Resolution.bit (if v.getLsbD 0 then .bits16 else .bits12) = v.extractLsb' 0 1 := by
  rw [extractLsb'_bit]
  cases v.getLsbD 0 <;> rfl

theorem decodeCommand_sound {opc : Nat} {a : Byte} {b : Half} (hlow : 1 ≤ opc) (hhigh : opc ≤ 9)
    (h : decodeCommand fam opc a b = .ok i) :
    encodeWord i = packWord (BitVec.ofNat 4 opc) 0#4 a b ∧ i.onFamily fam = true := by
  unfold decodeCommand at h
  split at h
  case h_1 =>
    cases fam <;> obtain ⟨hzero, rfl⟩ := ifZero_eq_ok h
    case adc20 =>
      obtain ⟨rfl, hb⟩ : a = 0#8 ∧ b.extractLsb' 1 15 = 0#15 := by simpa using hzero
      have hb := place_low_of_high_eq_zero hb rfl
      rw [extractLsb'_bit] at hb
      exact ⟨congrArg (packWord 1 0 0) hb, rfl⟩
    case adc24 =>
      obtain ⟨rfl, rfl⟩ : a = 0#8 ∧ b = 0#16 := by simpa using hzero
      exact ⟨rfl, rfl⟩
  case h_2 | h_6 =>
    obtain ⟨rfl, h⟩ := ofFamily_eq_ok h
    obtain ⟨hzero, rfl⟩ := ifZero_eq_ok h
    obtain rfl : b = 0#16 := of_decide_eq_true hzero
    exact ⟨rfl, rfl⟩
  case h_3 =>
    obtain ⟨hzero, rfl⟩ := ifZero_eq_ok h
    obtain rfl : b = 0#16 := of_decide_eq_true hzero
    cases fam <;> exact ⟨rfl, rfl⟩
  case h_4 =>
    obtain ⟨hzero, rfl⟩ := ifZero_eq_ok h
    have hb := place_low_of_high_eq_zero (of_decide_eq_true hzero) rfl
    cases fam <;> exact ⟨congrArg (packWord 4 0 a) hb, rfl⟩
  case h_5 =>
    obtain ⟨rfl, h⟩ := ofFamily_eq_ok h
    obtain ⟨hzero, rfl⟩ := ifZero_eq_ok h
    have hb := place_low_of_high_eq_zero (of_decide_eq_true hzero) rfl
    exact ⟨congrArg (packWord 5 0 a) hb, rfl⟩
  case h_7 =>
    obtain ⟨rfl, h⟩ := ofFamily_eq_ok h
    obtain ⟨hzero, rfl⟩ := ifZero_eq_ok h
    obtain ⟨rfl, hb⟩ : a = 0#8 ∧ b.extractLsb' 12 4 = 0#4 := by simpa using hzero
    exact ⟨congrArg (packWord 7 0 0) (place_low_of_high_eq_zero hb rfl), rfl⟩
  case h_8 =>
    obtain ⟨hzero, rfl⟩ := ifZero_eq_ok h
    have ha := place_low_of_high_eq_zero (of_decide_eq_true hzero) rfl
    rw [← resolution_bit] at ha
    exact ⟨congrArg (packWord 8 0 · b) ha, rfl⟩
  case h_9 =>
    obtain rfl : opc = 9 := by clear h; grind
    obtain ⟨hzero, rfl⟩ := ifZero_eq_ok h
    have hb := place_low_of_high_eq_zero (of_decide_eq_true hzero) rfl
    exact ⟨congrArg (packWord 9 0 a) hb, rfl⟩

/-- What a word decodes to has the word, belongs to the family, and is a command row or a reserved opcode. -/
theorem decodeWord_sound (h : decodeWord fam w = .ok i) :
    encodeWord i = w ∧ i.onFamily fam = true ∧ (i.kind = .command ∨ i.kind = .reserved) := by
  unfold decodeWord at h
  split at h
  case h_8 h0 hA hB hC hD hE hF =>
    split at h
    case isFalse => cases h
    case isTrue hrsv =>
      have hlt := (opcField w).isLt
      obtain ⟨hword, hrow⟩ := decodeCommand_sound (by grind) (by grind) h
      refine ⟨?_, hrow, .inl (decodeCommand_kind h)⟩
      rw [hword, BitVec.ofNat_toNat, BitVec.setWidth_eq, ← hrsv, packWord_fields]
  all_goals
    cases h
    exact ⟨reservedWord_of_opcode (by assumption), rfl, .inr rfl⟩

end Words

/-! ### Wire frames (R95 to R104) -/

section Frames
variable {cfg : Cfg} {fam : Family} {i : Instr}

/-! What a layout places is read back from its fields (R98, R99, R104). -/

theorem layout12_read (code : BitVec 12) (nib : BitVec 4) (ignored : Byte) :
    (layout12 code nib ignored).extractLsb' 12 12 = code ∧ (layout12 code nib ignored).extractLsb' 8 4 = nib ∧
      (layout12 code nib ignored).extractLsb' 0 8 = ignored := by
  simp (disch := omega) [layout12, BitVec.extractLsb'_or, extractLsb'_place, extractLsb'_place_above, extractLsb'_past]

theorem layout16_read (code : Half) (nib ignored : BitVec 4) :
    (layout16 code nib ignored).extractLsb' 8 16 = code ∧ (layout16 code nib ignored).extractLsb' 4 4 = nib ∧
      (layout16 code nib ignored).extractLsb' 0 4 = ignored := by
  simp (disch := omega) [layout16, BitVec.extractLsb'_or, extractLsb'_place, extractLsb'_place_above, extractLsb'_past]

theorem layout24_read (ignored : BitVec 4) (code : BitVec 12) :
    (layout24 ignored code).extractLsb' 12 4 = ignored ∧ (layout24 ignored code).extractLsb' 0 12 = code := by
  simp (disch := omega) [layout24, BitVec.extractLsb'_or, extractLsb'_place, extractLsb'_place_above, extractLsb'_past]

/-- R10: the bases leave the channel bits free. -/
theorem channel_bits_free (hok : cfg.ok = true) :
    cfg.baseManual.extractLsb' 6 4 = 0#4 ∧ cfg.baseSeq.extractLsb' 6 4 = 0#4 := by
  simp only [Cfg.ok, Bool.and_eq_true, decide_eq_true_eq] at hok
  obtain ⟨⟨⟨⟨⟨⟨⟨-, -⟩, hmanual⟩, hseq⟩, -⟩, -⟩, -⟩, -⟩ := hok
  exact ⟨extractLsb'_of_and_eq_zero hmanual rfl, extractLsb'_of_and_eq_zero hseq rfl⟩

/-- So the channel of a control word is the one that was placed (R101). -/
theorem channel_of_channelWord {base : BitVec 12} (hbase : base.extractLsb' 6 4 = 0#4) (ch : BitVec 4) :
    (frame12 (channelWord base ch)).extractLsb' 6 4 = ch := by
  simp (disch := omega) [frame12, channelWord, BitVec.extractLsb'_or, extractLsb'_place, hbase]

theorem decodeShape_mask20 {stop : BitVec 3} (h : stop ≠ 0#3) :
    decodeShape cfg .mask20 (frame3 0 0 (seqMask stop.toNat)) = .ok (.mask20 stop) := by
  have hstop : stop = 1#3 ∨ stop = 2#3 ∨ stop = 3#3 ∨ stop = 4#3 ∨ stop = 5#3 ∨ stop = 6#3 ∨ stop = 7#3 := by
    revert stop
    decide
  obtain rfl | rfl | rfl | rfl | rfl | rfl | rfl := hstop <;> rfl

/-- A control frame's field, by CW_SHIFT. -/
theorem decodeShape_c24 (cw : BitVec 12) :
    decodeShape cfg .c24 (frame2 (controlFrame cfg.cwShift cw)) = .ok (.c24 cw) := by
  cases hshift : cfg.cwShift <;>
    simp (disch := omega) [decodeShape, hshift, byte1, frame2, controlFrame, CwShift.amount, place_place,
      extractLsb'_place, extractLsb'_place_above, extractLsb'_past]

theorem decodeCode_encode_of_wireFrame (hok : cfg.ok = true) (hwf : i.wf = true) (hk : i.kind = .wireFrame)
    (hrow : i.onFamily fam = true) : decodeCode cfg fam (encode cfg i) = .ok i := by
  obtain ⟨hmanual, hseq⟩ := channel_bits_free hok
  cases i with
  | w20 _ _ | r20a _ | r20b | f20 =>
    obtain rfl : fam = .adc20 := of_decide_eq_true hrow
    simp [encode, decodeCode, decodeShape, Shape.family]
  | f20Rx12 _ _ _ | f20Rx16 _ _ _ =>
    obtain rfl : fam = .adc20 := of_decide_eq_true hrow
    simp [encode, decodeCode, decodeShape, Shape.family, layout12_read, layout16_read]
  | mask20 stop =>
    obtain rfl : fam = .adc20 := of_decide_eq_true hrow
    exact decodeShape_mask20 (cfg := cfg) (of_decide_eq_true hwf)
  | c24 cw =>
    obtain rfl : fam = .adc24 := of_decide_eq_true hrow
    exact decodeShape_c24 cw
  | cw12Manual ch =>
    obtain rfl : fam = .adc24 := of_decide_eq_true hrow
    simp [encode, decodeCode, decodeShape, Shape.family, channel_of_channelWord hmanual]
  | cw12Seq stop =>
    obtain rfl : fam = .adc24 := of_decide_eq_true hrow
    simp only [Instr.wf] at hwf
    simp [encode, decodeCode, decodeShape, Shape.family, channel_of_channelWord hseq, hwf]
  | p24 | f24 =>
    obtain rfl : fam = .adc24 := of_decide_eq_true hrow
    simp [encode, decodeCode, decodeShape, Shape.family]
  | f24Rx _ _ =>
    obtain rfl : fam = .adc24 := of_decide_eq_true hrow
    simp (disch := omega) [encode, decodeCode, decodeShape, Shape.family, byte1, frame2, extractLsb'_place,
      extractLsb'_past, layout24_read]
  | _ => cases hk

/-! ### A frame is its fields -/

theorem frame3_bytes (v : BitVec 24) : frame3 (byte1 v) (byte2 v) (byte3 v) = v :=
  place_three_fields (lo := 8) (mid := 16) v (by decide) (by decide)

theorem layout12_fields (v : BitVec 24) :
    layout12 (v.extractLsb' 12 12) (v.extractLsb' 8 4) (v.extractLsb' 0 8) = v :=
  place_three_fields (lo := 8) (mid := 12) v (by decide) (by decide)

theorem layout16_fields (v : BitVec 24) :
    layout16 (v.extractLsb' 8 16) (v.extractLsb' 4 4) (v.extractLsb' 0 4) = v :=
  place_three_fields (lo := 4) (mid := 8) v (by decide) (by decide)

theorem frame2_layout24_fields {v : BitVec 24} (h : byte1 v = 0#8) :
    frame2 (layout24 (v.extractLsb' 12 4) (v.extractLsb' 0 12)) = v := by
  have hv := place_three_fields (lo := 12) (mid := 16) v (by decide) (by decide)
  rw [show v.extractLsb' 16 (24 - 16) = 0#8 from h] at hv
  simpa (disch := omega) [frame2, layout24, place_or, place_place] using hv

theorem frame2_controlFrame_left4_fields {v : BitVec 24} (hhigh : byte1 v = 0#8) (hlow : v.extractLsb' 0 4 = 0#4) :
    frame2 (controlFrame .left4 (v.extractLsb' 4 12)) = v := by
  have hv := place_three_fields (lo := 4) (mid := 16) v (by decide) (by decide)
  rw [show v.extractLsb' 16 (24 - 16) = 0#8 from hhigh, hlow] at hv
  simpa (disch := omega) [frame2, controlFrame, CwShift.amount, place_place] using hv

theorem frame2_controlFrame_none0_fields {v : BitVec 24} (h : v.extractLsb' 12 12 = 0#12) :
    frame2 (controlFrame .none0 (v.extractLsb' 0 12)) = v :=
  (place_place (by decide)).trans (place_low_of_high_eq_zero h rfl)

theorem decodeShape_sound {sh : Shape} {v : BitVec 24} (h : decodeShape cfg sh v = .ok i) :
    encode cfg i = .wire sh v ∧ i.wf = true ∧ i.onFamily sh.family = true ∧ i.kind = .wireFrame := by
  cases sh <;> simp only [decodeShape] at h
  case w20 =>
    obtain ⟨hfits, rfl⟩ := ifFits_eq_ok h
    have hbits : frame3 cfg.writeCmd (byte2 v) (byte3 v) = v := of_decide_eq_true hfits ▸ frame3_bytes v
    exact ⟨congrArg _ hbits, rfl, rfl, rfl⟩
  case r20a =>
    obtain ⟨hfits, rfl⟩ := ifFits_eq_ok h
    obtain ⟨h1, h3⟩ : byte1 v = cfg.readCmd ∧ byte3 v = cfg.dummy := by simpa using hfits
    have hbits := frame3_bytes v
    rw [h1, h3] at hbits
    exact ⟨congrArg _ hbits, rfl, rfl, rfl⟩
  case r20b | f20 | p24 | f24 =>
    obtain ⟨hfits, rfl⟩ := ifFits_eq_ok h
    exact ⟨congrArg _ (of_decide_eq_true hfits).symm, rfl, rfl, rfl⟩
  case f20Rx12 =>
    cases h
    exact ⟨congrArg _ (layout12_fields v), rfl, rfl, rfl⟩
  case f20Rx16 =>
    cases h
    exact ⟨congrArg _ (layout16_fields v), rfl, rfl, rfl⟩
  case c24 =>
    split at h <;> rename_i hshift <;> obtain ⟨hfits, rfl⟩ := ifFits_eq_ok h
    · obtain ⟨hhigh, hlow⟩ : byte1 v = 0#8 ∧ v.extractLsb' 0 4 = 0#4 := by simpa using hfits
      refine ⟨?_, rfl, rfl, rfl⟩
      rw [encode, hshift, frame2_controlFrame_left4_fields hhigh hlow]
    · refine ⟨?_, rfl, rfl, rfl⟩
      rw [encode, hshift, frame2_controlFrame_none0_fields (of_decide_eq_true hfits)]
  case cw12Manual =>
    obtain ⟨hfits, rfl⟩ := ifFits_eq_ok h
    exact ⟨congrArg _ (of_decide_eq_true hfits).symm, rfl, rfl, rfl⟩
  case cw12Seq =>
    obtain ⟨hfits, rfl⟩ := ifFits_eq_ok h
    rw [Bool.and_eq_true] at hfits
    obtain ⟨hbits, hstop⟩ := hfits
    exact ⟨congrArg _ (of_decide_eq_true hbits).symm, hstop, rfl, rfl⟩
  case f24Rx =>
    obtain ⟨hfits, rfl⟩ := ifFits_eq_ok h
    exact ⟨congrArg _ (frame2_layout24_fields (of_decide_eq_true hfits)), rfl, rfl, rfl⟩
  case mask20 =>
    split at h <;> cases h <;> rename_i hv
    all_goals exact ⟨congrArg (Code.wire .mask20) (BitVec.eq_of_toNat_eq hv.symm), rfl, rfl, rfl⟩

end Frames

/-! ### The round trip -/

section RoundTrip
variable {cfg : Cfg} {i : Instr}

/-- Every row but the wire frames has a command word for its code. -/
theorem encode_of_ne_wireFrame (hk : i.kind ≠ .wireFrame) : encode cfg i = .word (encodeWord i) := by
  cases i with
  | w20 _ _ | r20a _ | r20b | f20 | f20Rx12 _ _ _ | f20Rx16 _ _ _ | c24 _ | cw12Manual _ | cw12Seq _ | p24 | f24
  | f24Rx _ _ | mask20 _ => exact absurd rfl hk
  | _ => rfl

/-- R92: only rows with no code of their own, and wire frames, restrict their operands. -/
theorem wf_of_command_or_reserved (hk : i.kind = .command ∨ i.kind = .reserved) : i.wf = true := by
  cases i with
  | sseqStop _ | cw12Seq _ | mask20 _ => simp [Instr.kind] at hk
  | _ => rfl

end RoundTrip

/-- Settles O1: a command row or a reserved opcode is read back from the fields of its word, a wire-frame row from the
fields of its frame. -/
theorem decodeInvertsEncode : Obligations.DecodeInvertsEncode := by
  unfold Obligations.DecodeInvertsEncode
  intro cfg fam i hok hwf hrow hpseudo
  cases hk : i.kind with
  | command =>
    rw [encode_of_ne_wireFrame (by simp [hk])]
    exact decodeWord_encodeWord_of_command hk hrow
  | reserved =>
    rw [encode_of_ne_wireFrame (by simp [hk])]
    exact decodeWord_encodeWord_of_reserved hk
  | wireFrame => exact decodeCode_encode_of_wireFrame hok hwf hk hrow
  | pseudo => exact absurd hk hpseudo

/-- Settles O2: the fields that the decoder keeps and the bits that it requires to be fixed are the whole code. -/
theorem encodeInvertsDecode : Obligations.EncodeInvertsDecode := by
  unfold Obligations.EncodeInvertsDecode
  intro cfg fam c i h
  cases c with
  | word w =>
    obtain ⟨hword, hrow, hk⟩ := decodeWord_sound h
    have hwire : i.kind ≠ .wireFrame := by obtain hk | hk := hk <;> simp [hk]
    have hpseudo : i.kind ≠ .pseudo := by obtain hk | hk := hk <;> simp [hk]
    exact ⟨(encode_of_ne_wireFrame hwire).trans (congrArg _ hword), wf_of_command_or_reserved hk, hrow, hpseudo⟩
  | wire sh v =>
    obtain ⟨rfl, hshape⟩ := ofFamily_eq_ok h
    obtain ⟨hcode, hwf, hrow, hk⟩ := decodeShape_sound hshape
    exact ⟨hcode, hwf, hrow, by simp [hk]⟩

/-! ### The opcode map (R84) -/

section OpcodeMap
variable {fam : Family} {w : Word} {i : Instr} {r : OpcodeRow}

/-- Words agree where their four fields do. -/
theorem word_eq_iff {v w : Word} : v = w ↔
    opcField v = opcField w ∧ rsvField v = rsvField w ∧ fieldA v = fieldA w ∧ fieldB v = fieldB w := by
  constructor
  · rintro rfl
    exact ⟨rfl, rfl, rfl, rfl⟩
  · rintro ⟨hopc, hrsv, ha, hb⟩
    rw [← packWord_fields v, hopc, hrsv, ha, hb, packWord_fields]

/-- A word matches under a mask where each field does under its part of the mask. -/
theorem and_eq_iff {mask bits : Word} : w &&& mask = bits ↔
    opcField w &&& opcField mask = opcField bits ∧ rsvField w &&& rsvField mask = rsvField bits ∧
      fieldA w &&& fieldA mask = fieldA bits ∧ fieldB w &&& fieldB mask = fieldB bits := by
  simp only [word_eq_iff, opcField, rsvField, fieldA, fieldB, BitVec.extractLsb'_and]

theorem selects_iff_and : r.selects fam w = true ↔
    w &&& r.mask = r.matchBits ∧ ∀ f ∈ r.family, f = fam := by
  obtain ⟨_ | f, bits, mask⟩ := r <;> simp [OpcodeRow.selects]

/-- Every row fixes OPC and RSV = 0, and asks of the operands only that bits are 0 (R84). -/
theorem opcodeMap_fields : ∀ r ∈ opcodeMap,
    opcField r.mask = BitVec.allOnes 4 ∧ rsvField r.mask = BitVec.allOnes 4 ∧
      rsvField r.matchBits = 0#4 ∧ fieldA r.matchBits = 0#8 ∧ fieldB r.matchBits = 0#16 := by
  decide

/-- The opcodes of the rows are those that are not reserved. -/
theorem opcodeMap_opcode : ∀ r ∈ opcodeMap, 1 ≤ (opcField r.matchBits).toNat ∧ (opcField r.matchBits).toNat ≤ 9 := by
  decide

theorem selects_iff (hr : r ∈ opcodeMap) : r.selects fam w = true ↔
    opcField w = opcField r.matchBits ∧ rsvField w = 0#4 ∧ fieldA w &&& fieldA r.mask = 0#8 ∧
      fieldB w &&& fieldB r.mask = 0#16 ∧ ∀ f ∈ r.family, f = fam := by
  obtain ⟨hopc, hrsv, hrsv0, ha0, hb0⟩ := opcodeMap_fields r hr
  rw [selects_iff_and, and_eq_iff, hopc, hrsv, hrsv0, ha0, hb0, BitVec.and_allOnes, BitVec.and_allOnes]
  simp only [and_assoc]

theorem rowWord_of_command (hk : i.kind = .command) : Laws.RowWord.Statement i := by
  cases i with
  | init20 _ => exact Laws.RowWord.init20 _
  | init24 => exact Laws.RowWord.init24
  | setavg _ => exact Laws.RowWord.setavg _
  | sman20 _ => exact Laws.RowWord.sman20 _
  | sman24 _ => exact Laws.RowWord.sman24 _
  | sseq20 _ _ => exact Laws.RowWord.sseq20 _ _
  | sseq24 _ _ => exact Laws.RowWord.sseq24 _ _
  | wreg _ _ => exact Laws.RowWord.wreg _ _
  | rreg _ => exact Laws.RowWord.rreg _
  | wctl _ => exact Laws.RowWord.wctl _
  | tomv _ _ => exact Laws.RowWord.tomv _ _
  | chkid _ _ => exact Laws.RowWord.chkid _ _
  | _ => cases hk

/-- A command's word selects the row of its instruction (R84). -/
theorem selects_of_command (hk : i.kind = .command) (hrow : i.onFamily fam = true) :
    ∃ n r, rowIndex i = some n ∧ opcodeMap[n]? = some r ∧ r.selects fam (encodeWord i) = true := by
  have hword := rowWord_of_command hk
  cases i with
  | init20 _ | setavg _ | sman20 _ | sseq20 _ _ | wreg _ _ | rreg _ | init24 | sman24 _ | sseq24 _ _ | wctl _ =>
    refine ⟨_, _, rfl, rfl, selects_iff_and.2 ⟨hword _ _ rfl rfl, fun f hf => ?_⟩⟩
    exact (Option.some.inj hf).symm.trans (of_decide_eq_true hrow).symm
  | tomv _ _ | chkid _ _ => exact ⟨_, _, rfl, rfl, selects_iff_and.2 ⟨hword _ _ rfl rfl, nofun⟩⟩
  | _ => cases hk

/-- Operands in which the bits that a row's mask fixes are 0 decode to an instruction of the row. -/
theorem decodeCommand_of_row {n : Nat} {a : Byte} {b : Half} (hr : opcodeMap[n]? = some r)
    (ha : a &&& fieldA r.mask = 0#8) (hb : b &&& fieldB r.mask = 0#16) (hfam : ∀ f ∈ r.family, f = fam) :
    ∃ i, decodeCommand fam (opcField r.matchBits).toNat a b = .ok i ∧ i.kind = .command ∧ rowIndex i = some n := by
  obtain ⟨hn, -⟩ := List.getElem?_eq_some_iff.1 hr
  replace hn : n < 12 := hn
  interval_cases n <;> cases hr
  · -- INIT, ADC20
    obtain rfl : Family.adc20 = fam := hfam _ rfl
    obtain rfl : a = 0#8 := eq_zero_of_and_eq_zero ha rfl
    have hhigh : b.extractLsb' 1 15 = 0#15 := extractLsb'_of_and_eq_zero hb rfl
    exact ⟨.init20 (b.getLsbD 0), ifZero_of_eq hhigh, rfl, rfl⟩
  · -- INIT, ADC24
    obtain rfl : Family.adc24 = fam := hfam _ rfl
    obtain rfl : a = 0#8 := eq_zero_of_and_eq_zero ha rfl
    obtain rfl : b = 0#16 := eq_zero_of_and_eq_zero hb rfl
    exact ⟨.init24, rfl, rfl, rfl⟩
  · -- SETAVG
    obtain rfl : Family.adc20 = fam := hfam _ rfl
    obtain rfl : b = 0#16 := eq_zero_of_and_eq_zero hb rfl
    exact ⟨.setavg a, rfl, rfl, rfl⟩
  · -- SMAN, ADC20
    obtain rfl : Family.adc20 = fam := hfam _ rfl
    obtain rfl : b = 0#16 := eq_zero_of_and_eq_zero hb rfl
    exact ⟨.sman20 a, rfl, rfl, rfl⟩
  · -- SMAN, ADC24
    obtain rfl : Family.adc24 = fam := hfam _ rfl
    obtain rfl : b = 0#16 := eq_zero_of_and_eq_zero hb rfl
    exact ⟨.sman24 a, rfl, rfl, rfl⟩
  · -- SSEQ, ADC20
    obtain rfl : Family.adc20 = fam := hfam _ rfl
    have hhigh : b.extractLsb' 8 8 = 0#8 := extractLsb'_of_and_eq_zero hb rfl
    exact ⟨.sseq20 a (b.extractLsb' 0 8), ifZero_of_eq hhigh, rfl, rfl⟩
  · -- SSEQ, ADC24
    obtain rfl : Family.adc24 = fam := hfam _ rfl
    have hhigh : b.extractLsb' 8 8 = 0#8 := extractLsb'_of_and_eq_zero hb rfl
    exact ⟨.sseq24 a (b.extractLsb' 0 8), ifZero_of_eq hhigh, rfl, rfl⟩
  · -- WREG
    obtain rfl : Family.adc20 = fam := hfam _ rfl
    have hhigh : b.extractLsb' 8 8 = 0#8 := extractLsb'_of_and_eq_zero hb rfl
    exact ⟨.wreg a (b.extractLsb' 0 8), ifZero_of_eq hhigh, rfl, rfl⟩
  · -- RREG
    obtain rfl : Family.adc20 = fam := hfam _ rfl
    obtain rfl : b = 0#16 := eq_zero_of_and_eq_zero hb rfl
    exact ⟨.rreg a, rfl, rfl, rfl⟩
  · -- WCTL
    obtain rfl : Family.adc24 = fam := hfam _ rfl
    obtain rfl : a = 0#8 := eq_zero_of_and_eq_zero ha rfl
    have hhigh : b.extractLsb' 12 4 = 0#4 := extractLsb'_of_and_eq_zero hb rfl
    exact ⟨.wctl (b.extractLsb' 0 12), ifZero_of_eq hhigh, rfl, rfl⟩
  · -- TOMV
    have hhigh : a.extractLsb' 1 7 = 0#7 := extractLsb'_of_and_eq_zero ha rfl
    exact ⟨.tomv (if a.getLsbD 0 then .bits16 else .bits12) b, ifZero_of_eq hhigh, rfl, rfl⟩
  · -- CHKID
    have hhigh : b.extractLsb' 4 12 = 0#12 := extractLsb'_of_and_eq_zero hb rfl
    exact ⟨.chkid a (b.extractLsb' 0 4), ifZero_of_eq hhigh, rfl, rfl⟩

theorem decodeWord_of_selects {n : Nat} (hr : opcodeMap[n]? = some r) (h : r.selects fam w = true) :
    ∃ i, decodeWord fam w = .ok i ∧ i.kind = .command ∧ rowIndex i = some n := by
  have hmem : r ∈ opcodeMap := List.mem_of_getElem? hr
  obtain ⟨hopc, hrsv, ha, hb, hfam⟩ := (selects_iff hmem).1 h
  obtain ⟨hlow, hhigh⟩ := opcodeMap_opcode r hmem
  rw [← hopc] at hlow hhigh
  rw [decodeWord_of_command_opcode hlow hhigh, if_pos hrsv, hopc]
  exact decodeCommand_of_row hr ha hb hfam

end OpcodeMap

/-- Settles O3: by O2 a decoded command is its word, which selects its row; and a word that selects a row has the
operands of an instruction of it. -/
theorem wordSelectsItsOpcodeRow : Obligations.WordSelectsItsOpcodeRow := by
  unfold Obligations.WordSelectsItsOpcodeRow
  refine fun fam w => ⟨fun i h hk => ?_, fun n r => decodeWord_of_selects⟩
  obtain ⟨rfl, hrow, -⟩ := decodeWord_sound h
  exact selects_of_command hk hrow

/-! ### The Illegal words (R85) -/

section Illegal
variable {fam : Family} {w : Word} {r : OpcodeRow}

theorem toNat_opcField (w : Word) : (opcField w).toNat = (w >>> 28).toNat := by
  have := w.isLt
  rw [opcField, BitVec.extractLsb'_toNat, BitVec.toNat_ushiftRight, Nat.shiftRight_eq_div_pow]
  omega

theorem mustBeZeroBits_fields : ∀ k < 16, opcField (mustBeZeroBits k) = 0#4 ∧ rsvField (mustBeZeroBits k) = 0#4 := by
  decide

/-- A row's mask asks to be 0 what its opcode's format does (R82) and, for INIT on ADC24, chid (R85 e). -/
theorem opcodeMap_mask (fam : Family) : ∀ r ∈ opcodeMap, (∀ f ∈ r.family, f = fam) →
    fieldA r.mask = fieldA (mustBeZeroBits (opcField r.matchBits).toNat) ∧
      fieldB r.mask = fieldB (mustBeZeroBits (opcField r.matchBits).toNat) |||
        if fam = .adc24 ∧ (opcField r.matchBits).toNat = 1 then 1#16 else 0#16 := by
  cases fam <;> decide

/-- Which opcodes have a row for a family (R85 a, d). -/
theorem opcodeMap_hasRow (fam : Family) : ∀ k < 16,
    (∃ r ∈ opcodeMap, (opcField r.matchBits).toNat = k ∧ ∀ f ∈ r.family, f = fam) ↔
      (1 ≤ k ∧ k ≤ 9) ∧ ¬ (fam = .adc24 ∧ (k = 2 ∨ k = 5 ∨ k = 6) ∨ fam = .adc20 ∧ k = 7) := by
  cases fam <;> decide

/-- INIT's chid is bit 0 of the word and of the field B (R82). -/
theorem fieldB_and_one_eq_zero_iff : fieldB w &&& 1#16 = 0#16 ↔ ¬ w &&& 1#32 = 1#32 := by
  have hbit : (fieldB w).getLsbD 0 = w.getLsbD 0 := by simp [fieldB]
  rw [BitVec.and_one_eq_setWidth_ofBool_getLsbD, BitVec.and_one_eq_setWidth_ofBool_getLsbD, hbit]
  cases w.getLsbD 0 <;> decide

theorem and_rsv_mask_eq_zero_iff : w &&& 0x0F000000#32 = 0#32 ↔ rsvField w = 0#4 := by
  have hmask : opcField 0x0F000000#32 = 0#4 ∧ rsvField 0x0F000000#32 = BitVec.allOnes 4 ∧
      fieldA 0x0F000000#32 = 0#8 ∧ fieldB 0x0F000000#32 = 0#16 := by decide
  obtain ⟨hopc, hrsv, ha, hb⟩ := hmask
  rw [and_eq_iff, hopc, hrsv, ha, hb, BitVec.and_allOnes]
  simp only [BitVec.and_zero]
  exact ⟨fun h => h.2.1, fun h => ⟨rfl, h, rfl, rfl⟩⟩

/-- A row that the family has, selected by the word's opcode, RSV, and the bits of R82 and R85 (e). -/
theorem selects_iff_mustBeZero (hr : r ∈ opcodeMap) (hfam : ∀ f ∈ r.family, f = fam)
    (hopc : opcField w = opcField r.matchBits) : r.selects fam w = true ↔
      rsvField w = 0#4 ∧ w &&& mustBeZeroBits (opcField w).toNat = 0#32 ∧
        ¬ (fam = .adc24 ∧ (opcField w).toNat = 1 ∧ w &&& 1#32 = 1#32) := by
  obtain ⟨ha, hb⟩ := opcodeMap_mask fam r hr hfam
  obtain ⟨hopc0, hrsv0⟩ := mustBeZeroBits_fields _ (opcField w).isLt
  have hzero : opcField 0#32 = 0#4 ∧ rsvField 0#32 = 0#4 ∧ fieldA 0#32 = 0#8 ∧ fieldB 0#32 = 0#16 := by decide
  obtain ⟨hopcz, hrsvz, haz, hbz⟩ := hzero
  rw [selects_iff hr, and_eq_iff, hopc0, hrsv0, hopcz, hrsvz, haz, hbz, ha, hb, ← hopc, BitVec.and_or_distrib_left,
    BitVec.or_eq_zero_iff, BitVec.and_zero, BitVec.and_zero]
  by_cases hinit : fam = .adc24 ∧ (opcField w).toNat = 1
  · rw [if_pos hinit, fieldB_and_one_eq_zero_iff]
    tauto
  · rw [if_neg hinit, BitVec.and_zero]
    tauto

theorem exists_row_iff : (∃ r ∈ opcodeMap, r.selects fam w = true) ↔
    (∃ r ∈ opcodeMap, (opcField r.matchBits).toNat = (opcField w).toNat ∧ ∀ f ∈ r.family, f = fam) ∧
    rsvField w = 0#4 ∧ w &&& mustBeZeroBits (opcField w).toNat = 0#32 ∧
    ¬ (fam = .adc24 ∧ (opcField w).toNat = 1 ∧ w &&& 1#32 = 1#32) := by
  constructor
  · rintro ⟨r, hr, h⟩
    obtain ⟨hopc, -, -, -, hfam⟩ := (selects_iff hr).1 h
    exact ⟨⟨r, hr, congrArg _ hopc.symm, hfam⟩, (selects_iff_mustBeZero hr hfam hopc).1 h⟩
  · rintro ⟨⟨r, hr, hopc, hfam⟩, h⟩
    exact ⟨r, hr, (selects_iff_mustBeZero hr hfam (BitVec.eq_of_toNat_eq hopc.symm)).2 h⟩

/-- A word is Illegal where it selects no row (R84, R85). -/
theorem illegal_iff_no_row :
    ((∃ e, decodeWord fam w = .error e) ∨ ∃ i, decodeWord fam w = .ok i ∧ i.kind = .reserved) ↔
      ¬ ∃ r ∈ opcodeMap, r.selects fam w = true := by
  have hrow : (∃ r ∈ opcodeMap, r.selects fam w = true) ↔ ∃ i, decodeWord fam w = .ok i ∧ i.kind = .command := by
    obtain ⟨hselects, hdecodes⟩ := wordSelectsItsOpcodeRow fam w
    constructor
    · rintro ⟨r, hr, h⟩
      obtain ⟨n, hn⟩ := List.getElem?_of_mem hr
      obtain ⟨i, hd, hk, -⟩ := hdecodes n r hn h
      exact ⟨i, hd, hk⟩
    · rintro ⟨i, hd, hk⟩
      obtain ⟨n, r, -, hr, h⟩ := hselects i hd hk
      exact ⟨r, List.mem_of_getElem? hr, h⟩
  rw [hrow]
  cases hd : decodeWord fam w with
  | error e => simp
  | ok i => obtain ⟨-, -, hk | hk⟩ := decodeWord_sound hd <;> simp [hk]

end Illegal

/-- Settles O4: a word is Illegal where no row of the map selects it, and a row fails to by its family or opcode, by
RSV, by a bit of the format, or by INIT's chid. -/
theorem illegalWordsAreThoseOfTheFiveCases : Obligations.IllegalWordsAreThoseOfTheFiveCases := by
  unfold Obligations.IllegalWordsAreThoseOfTheFiveCases
  intro fam w
  rw [illegal_iff_no_row, exists_row_iff, opcodeMap_hasRow fam _ (opcField w).isLt, ← and_rsv_mask_eq_zero_iff,
    toNat_opcField]
  have hopc : ((w >>> 28).toNat = 0 ∨ 0xA ≤ (w >>> 28).toNat) ↔ ¬ (1 ≤ (w >>> 28).toNat ∧ (w >>> 28).toNat ≤ 9) := by
    omega
  rw [hopc]
  grind only

/-! ### The aliases and the assembler (R91, R92) -/

/-- Settles O5: `encodeWord` gives another name its core instruction's fields, and stop + 1 does not overflow where it is
a count. -/
theorem aliasesHaveTheirCoreWords : Obligations.AliasesHaveTheirCoreWords := by
  unfold Obligations.AliasesHaveTheirCoreWords
  refine ⟨fun _ _ => rfl, fun _ _ => rfl, fun _ _ => rfl, fun cfg stop count hcount => ?_⟩
  have hnext : (stop + 1).toNat = (stop.toNat + 1) % 256 := BitVec.toNat_add ..
  obtain rfl : count = stop + 1 := BitVec.eq_of_toNat_eq (by omega)
  exact ⟨rfl, rfl⟩

section Assembler
variable {fam : Family} {x y : Int}

theorem fitUnsigned_eq {n : Nat} {max : Int} (hmax : 2 ^ n = max + 1) (x : Int) :
    fitUnsigned n x = if 0 ≤ x ∧ x ≤ max then some (BitVec.ofInt n x) else none := by
  rw [fitUnsigned, hmax]
  simp only [Int.lt_add_one_iff]

/-- An operand that fits its field stands in the word as the integer it is. -/
theorem place_ofInt {n width : Nat} (hwidth : width ≤ n) (lo : Nat) (hlow : 0 ≤ x) (hhigh : x < 2 ^ width) :
    place n lo (BitVec.ofInt width x) = BitVec.ofInt n x <<< lo := by
  lift x to Nat using hlow
  have hx : x < 2 ^ width := by exact_mod_cast hhigh
  rw [place, BitVec.ofInt_natCast, BitVec.ofInt_natCast, BitVec.setWidth_ofNat_of_le_of_lt hwidth hx]

/-- A word with RSV = 0 is its opcode and its operands. -/
theorem packWord_eq {opc : BitVec 4} {bits : Word} (hopc : place 32 28 opc = bits) (a : Byte) (b : Half) :
    packWord opc 0#4 a b = bits ||| place 32 16 a ||| place 32 0 b := by
  simp [packWord, hopc]

/-- An operand of the field A. -/
theorem place_A_ofInt (hlow : 0 ≤ x) (hhigh : x ≤ 255) : place 32 16 (BitVec.ofInt 8 x) = BitVec.ofInt 32 x <<< 16 :=
  place_ofInt (by decide) 16 hlow (by omega)

/-- An operand of the field B, of the width that its format has. -/
theorem place_B_ofInt {width : Nat} (hwidth : width ≤ 16) (hlow : 0 ≤ x) (hhigh : x < 2 ^ width) :
    place 32 0 (place 16 0 (BitVec.ofInt width x)) = BitVec.ofInt 32 x := by
  rw [place_place (by omega), Nat.zero_add, place_ofInt (by omega) 0 hlow hhigh, BitVec.shiftLeft_zero]

/-- The words with one operand, in A. -/
theorem packWord_A {opc : BitVec 4} {bits : Word} (hopc : place 32 28 opc = bits) (hlow : 0 ≤ x) (hhigh : x ≤ 255) :
    packWord opc 0#4 (BitVec.ofInt 8 x) 0#16 = bits ||| BitVec.ofInt 32 x <<< 16 := by
  rw [packWord_eq hopc, place_A_ofInt hlow hhigh, place_zero, BitVec.or_zero]

/-- The words with one operand, in B. -/
theorem packWord_B {opc : BitVec 4} {bits : Word} {width : Nat} (hopc : place 32 28 opc = bits) (hwidth : width ≤ 16)
    (hlow : 0 ≤ x) (hhigh : x < 2 ^ width) :
    packWord opc 0#4 0#8 (place 16 0 (BitVec.ofInt width x)) = bits ||| BitVec.ofInt 32 x := by
  rw [packWord_eq hopc, place_B_ofInt hwidth hlow hhigh, place_zero, BitVec.or_zero]

/-- The words with an operand in A and one in B. -/
theorem packWord_AB {opc : BitVec 4} {bits : Word} {width : Nat} (hopc : place 32 28 opc = bits) (hwidth : width ≤ 16)
    (hxlow : 0 ≤ x) (hxhigh : x ≤ 255) (hlow : 0 ≤ y) (hhigh : y < 2 ^ width) :
    packWord opc 0#4 (BitVec.ofInt 8 x) (place 16 0 (BitVec.ofInt width y)) =
      bits ||| BitVec.ofInt 32 x <<< 16 ||| BitVec.ofInt 32 y := by
  rw [packWord_eq hopc, place_A_ofInt hxlow hxhigh, place_B_ofInt hwidth hlow hhigh]

/-- A mnemonic with one operand: the word where the operand fits, else a refusal (R91). -/
theorem map_encodeWord_one {α : Type} {p : Prop} [Decidable p] {a : α} {f : α → Instr} {word : Word}
    (hword : p → encodeWord (f a) = word) :
    ((if p then some a else none).map f).map encodeWord = if p then some word else none := by
  by_cases hp : p
  · simp [hp, hword hp]
  · simp [hp]

/-- A mnemonic with two operands: the word where both fit, else a refusal (R91). -/
theorem map_encodeWord_two {α β : Type} {p q : Prop} [Decidable p] [Decidable q] {a : α} {b : β} {f : α → β → Instr}
    {word : Word} (hword : p → q → encodeWord (f a b) = word) :
    ((if p then some a else none).bind fun a => (if q then some b else none).map (f a)).map encodeWord =
      if p ∧ q then some word else none := by
  by_cases hp : p <;> by_cases hq : q
  case pos => simp [hp, hq, hword hp hq]
  all_goals simp [hp, hq]

theorem assembleInstr_sseq : assembleInstr fam .SSEQ [x, y] =
    (fitUnsigned 8 x).bind fun stop => (fitUnsigned 8 y).map (.sseq20 stop) := by
  rw [assembleInstr]
  cases fitUnsigned 8 x <;> cases fitUnsigned 8 y <;> rfl

theorem assembleInstr_sseqStop : assembleInstr fam .SSEQ [x] =
    (fitUnsigned 8 x).bind fun stop => (fitUnsigned 8 (x + 1)).map fun _ => .sseqStop stop := by
  rw [assembleInstr]
  cases fitUnsigned 8 x <;> cases fitUnsigned 8 (x + 1) <;> rfl

theorem assembleInstr_wreg : assembleInstr fam .WREG [x, y] =
    (fitUnsigned 8 x).bind fun addr => (fitUnsigned 8 y).map (.wreg addr) := by
  rw [assembleInstr]
  cases fitUnsigned 8 x <;> cases fitUnsigned 8 y <;> rfl

theorem assembleInstr_tomv : assembleInstr fam .TOMV [x, y] =
    (fitUnsigned 1 x).bind fun r => (fitCode16 y).map (.tomv (if r.getLsbD 0 then .bits16 else .bits12)) := by
  rw [assembleInstr]
  cases fitUnsigned 1 x <;> cases fitCode16 y <;> rfl

theorem assembleInstr_chkid : assembleInstr fam .CHKID [x, y] =
    (fitUnsigned 8 x).bind fun expected => (fitUnsigned 4 y).map (.chkid expected) := by
  rw [assembleInstr]
  cases fitUnsigned 8 x <;> cases fitUnsigned 4 y <;> rfl

/-- INIT's word has chid in B. -/
theorem encodeWord_init20_ofInt (hlow : 0 ≤ x) (hhigh : x ≤ 1) :
    encodeWord (.init20 ((BitVec.ofInt 1 x).getLsbD 0)) = 0x10000000#32 ||| BitVec.ofInt 32 x := by
  rw [encodeWord, ← extractLsb'_bit, BitVec.extractLsb'_eq_self]
  exact packWord_B rfl (by decide) hlow (by omega)

/-- TOMV's word has the resolution in A and the code in B. -/
theorem encodeWord_tomv_ofInt (code16 : Half) (hlow : 0 ≤ x) (hhigh : x ≤ 1) :
    encodeWord (.tomv (if (BitVec.ofInt 1 x).getLsbD 0 then .bits16 else .bits12) code16) =
      0x80000000#32 ||| BitVec.ofInt 32 x <<< 16 ||| code16.setWidth 32 := by
  have ha : place 32 16 (place 8 0 (BitVec.ofInt 1 x)) = BitVec.ofInt 32 x <<< 16 := by
    rw [place_place (by decide), Nat.add_zero, place_ofInt (by decide) 16 hlow (by omega)]
  rw [encodeWord, resolution_bit, BitVec.extractLsb'_eq_self]
  exact (packWord_eq rfl _ _).trans (by rw [ha]; simp [place])

end Assembler

/-- Settles O6: the operands that fit stand in the word as the integers they are, and where one does not there is no
instruction. -/
theorem assemblerGivesTheTableWords : Obligations.AssemblerGivesTheTableWords := by
  unfold Obligations.AssemblerGivesTheTableWords
  intro fam x y
  have hfit1 := fitUnsigned_eq (n := 1) (max := 1) rfl
  have hfit4 := fitUnsigned_eq (n := 4) (max := 15) rfl
  have hfit8 := fitUnsigned_eq (n := 8) (max := 255) rfl
  have hfit12 := fitUnsigned_eq (n := 12) (max := 0xFFF) rfl
  refine ⟨rfl, ?init, ?setavg, ?sman, ?sseq, ?sseqStop, ?wreg, ?rreg, ?wctl, ?tomv, ?chkid⟩
  case init =>
    rw [assemble, assembleInstr, hfit1]
    exact map_encodeWord_one fun ⟨hlow, hhigh⟩ => encodeWord_init20_ofInt hlow hhigh
  case setavg | sman | rreg =>
    rw [assemble, assembleInstr, hfit8]
    exact map_encodeWord_one fun ⟨hlow, hhigh⟩ => packWord_A rfl hlow hhigh
  case wctl =>
    rw [assemble, assembleInstr, hfit12]
    exact map_encodeWord_one fun ⟨hlow, hhigh⟩ => packWord_B rfl (by decide) hlow (by omega)
  case sseq =>
    rw [assemble, assembleInstr_sseq, hfit8, hfit8]
    exact map_encodeWord_two fun ⟨hxlow, hxhigh⟩ ⟨hlow, hhigh⟩ =>
      packWord_AB rfl (by decide) hxlow hxhigh hlow (by omega)
  case wreg =>
    rw [assemble, assembleInstr_wreg, hfit8, hfit8]
    exact map_encodeWord_two fun ⟨hxlow, hxhigh⟩ ⟨hlow, hhigh⟩ =>
      packWord_AB rfl (by decide) hxlow hxhigh hlow (by omega)
  case chkid =>
    rw [assemble, assembleInstr_chkid, hfit8, hfit4]
    exact map_encodeWord_two fun ⟨hxlow, hxhigh⟩ ⟨hlow, hhigh⟩ =>
      packWord_AB rfl (by decide) hxlow hxhigh hlow (by omega)
  case tomv =>
    rw [assemble, assembleInstr_tomv, hfit1]
    exact map_encodeWord_two fun ⟨hlow, hhigh⟩ _ => encodeWord_tomv_ofInt _ hlow hhigh
  case sseqStop =>
    have hrange : 0 ≤ x ∧ x ≤ 254 ↔ (0 ≤ x ∧ x ≤ 255) ∧ 0 ≤ x + 1 ∧ x + 1 ≤ 255 := by omega
    simp only [assemble, assembleInstr_sseqStop, hfit8, hrange]
    refine map_encodeWord_two fun ⟨hxlow, hxhigh⟩ ⟨hlow, hhigh⟩ => ?_
    have hcount : BitVec.ofInt 8 x + 1 = BitVec.ofInt 8 (x + 1) := (BitVec.ofInt_add x 1).symm
    rw [encodeWord, hcount]
    exact packWord_AB rfl (by decide) hxlow hxhigh hlow (by omega)

/-! ### Words and frames written out (95 3.1, 3.2) -/

/-- Settles O7: the decoder evaluates on each of these words and frames. -/
theorem writtenOutWordsDecode : Obligations.WrittenOutWordsDecode := by
  unfold Obligations.WrittenOutWordsDecode
  exact ⟨rfl, rfl, rfl, rfl, rfl, rfl, rfl, rfl, rfl, rfl, rfl, rfl, rfl⟩

/-! ### The step (R80) -/

/-- Settles O8: the step takes the request and runs what its code decodes to, which is well formed by O2. -/
theorem stepRunsTheDecodedInstruction : Obligations.StepRunsTheDecodedInstruction := by
  unfold Obligations.StepRunsTheDecodedInstruction
  intro s c rest i hport hd
  obtain ⟨-, hwf, -, -⟩ := encodeInvertsDecode s.cfg s.family c i hd
  exact ⟨hwf, by simp [step, hport, hd, takeRequest_eq hport]⟩

/-! ### Rows that the block does not have (R85, R86, R213) -/

/-- R213: a row that the block does not have completes at its acceptance. -/
theorem exec_illegal_eq_completed {i : Instr} {s : State} (hk : i.kind ≠ .wireFrame) (hbusy : s.busy = false)
    (hillegal : ¬ rowLegal i s.family = true) :
    exec i s = .next (completed s (encodeWord i) .illegalCommand 0 [] []) := by
  rw [exec_of_illegal hk hbusy hillegal, raise_illegalCommand_accept]

/-- Settles O47: no block has a reserved opcode. -/
theorem reservedOpcodesAreIllegal : Obligations.ReservedOpcodesAreIllegal := by
  unfold Obligations.ReservedOpcodesAreIllegal
  intro s i rest hbusy hi
  have hk : i.kind = .reserved := by obtain rfl | rfl | rfl | rfl | rfl | rfl | rfl := hi <;> rfl
  exact exec_illegal_eq_completed (by simp [hk]) hbusy (by simp [rowLegal, hk])

/-- Settles O48: a block has no command row of the other family. -/
theorem rowsOfTheOtherFamilyAreIllegal : Obligations.RowsOfTheOtherFamilyAreIllegal := by
  unfold Obligations.RowsOfTheOtherFamilyAreIllegal
  intro s i hk hother hbusy
  exact exec_illegal_eq_completed hk hbusy (by simp [rowLegal, hother])

/-! ### Wire-frame rows run by themselves (log 8) -/

section Rows
variable {s : State} {e : Event}

/-- A wire-frame row on a block of its family. -/
theorem exec_eq_wireBody {i : Instr} (hk : i.kind = .wireFrame) (hrow : i.onFamily s.family = true) :
    exec i s = .next (wireBody i s) := by
  obtain ⟨fam, hfamily, hexec⟩ := exec_eq_primitive hk
  rw [hfamily] at hrow
  rw [hexec, primitive_own _ (of_decide_eq_true hrow)]

/-- What `ask` says of the first exchange is what it is given (R54). -/
theorem ask_nil (s : State) (tx : List Byte) (hold : Bool) : ask s [] tx hold = (xchg tx hold s).2 := by
  rw [ask, List.append_nil]
  rfl

/-- One exchange by itself: answered, its bytes go to the latch; failed, it raises IoError. -/
theorem exchangeOnly_eq_afterExchange (h : gets s [e] = true) :
    exchangeOnly (xchg e.tx e.hold s) = afterExchange s e := by
  obtain ⟨hask, -⟩ := gets_cons.1 h
  rw [ask_nil] at hask
  have hxchg : xchg e.tx e.hold s = (recordExchange e.tx e.hold e.rx s, e.rx) := Prod.ext (by rw [xchg_fst, hask]) hask
  obtain ⟨tx, hold, _ | rx⟩ := e <;> rw [hxchg] <;> rfl

end Rows

/-- Settles O49: a transmit row is one exchange by itself, whose bytes are those of its event. -/
theorem transmitRowsIssueTheirFrame : Obligations.TransmitRowsIssueTheirFrame := by
  unfold Obligations.TransmitRowsIssueTheirFrame
  intro s rx
  have hrow {i : Instr} {e : Event} (hk : i.kind = .wireFrame) (hfam : i.onFamily s.family = true)
      (hbody : wireBody i s = exchangeOnly (xchg e.tx e.hold s)) (h : gets s [e] = true) :
      exec i s = .next (afterExchange s e) := by
    rw [exec_eq_wireBody hk hfam, hbody, exchangeOnly_eq_afterExchange h]
  refine ⟨fun hfam => ⟨fun addr value => ?_, fun addr => ?_, ?_, ?_⟩, fun hfam => ⟨fun cw => ?_, ?_, ?_⟩⟩ <;>
    exact hrow rfl (decide_eq_true hfam) rfl

/-- Settles O51: the channel is placed in bits [9:6] of the word. -/
theorem controlWordRowsPlaceTheChannel : Obligations.ControlWordRowsPlaceTheChannel := by
  unfold Obligations.ControlWordRowsPlaceTheChannel
  intro s hfam
  have hplace (ch : BitVec 4) : place 12 6 ch = BitVec.ofNat 12 (ch.toNat * 64) :=
    BitVec.eq_of_toNat_eq (by simp [toNat_place])
  constructor <;> intro ch <;> rw [← hplace] <;> exact exec_eq_wireBody rfl (decide_eq_true hfam)

/-- Settles O52: the mask is 2 ^ (stop + 1) - 1, whose bits are the channels up to stop. -/
theorem maskRowSetsTheChannelsUpToStop : Obligations.MaskRowSetsTheChannelsUpToStop := by
  unfold Obligations.MaskRowSetsTheChannelsUpToStop
  intro s stop hfam hstop
  refine ⟨seqMask stop.toNat, exec_eq_wireBody rfl (decide_eq_true hfam), ?_, fun i hi => ?_⟩
  · rw [seqMask, Nat.shiftLeft_eq, Nat.one_mul]
  · rw [seqMask, Nat.shiftLeft_eq, Nat.one_mul, BitVec.getLsbD_ofNat, Nat.testBit_two_pow_sub_one]
    simp [hi]

/-! ### Received frames (R98, R99, R104) -/

section Received
variable {osr : BitVec 3}

theorem pairFrame_bytes (v : BitVec 24) : pairFrame (byte1 v) (byte2 v) = v.extractLsb' 8 16 := by
  have hframe := pairFrame_frameBytes (v.extractLsb' 8 16)
  rwa [extractLsb'_extractLsb' v (by decide), extractLsb'_extractLsb' v (by decide)] at hframe

/-- R98: the code stands in [23:12], the nibble in [11:8]. -/
theorem decodeFrame20_bytes12 (hosr : osr = 0#3) (chidEn : Bool) (v : BitVec 24) :
    decodeFrame20 osr chidEn (byte1 v) (byte2 v) (byte3 v) =
      { raw := (v.extractLsb' 12 12).setWidth 16, res := .bits12, chidv := chidEn,
        chid := if chidEn then v.extractLsb' 8 4 else 0 } := by
  have hraw : v.extractLsb' 8 16 >>> 4 = (v.extractLsb' 12 12).setWidth 16 := by
    apply BitVec.eq_of_toNat_eq
    simp only [BitVec.toNat_ushiftRight, BitVec.toNat_setWidth, BitVec.extractLsb'_toNat, Nat.shiftRight_eq_div_pow]
    omega
  rw [decodeFrame20, if_pos hosr, pairFrame_bytes, hraw, extractLsb'_extractLsb' v (by decide)]

/-- R99: the code stands in [23:8], the nibble in [7:4]. -/
theorem decodeFrame20_bytes16 (hosr : osr ≠ 0#3) (chidEn : Bool) (v : BitVec 24) :
    decodeFrame20 osr chidEn (byte1 v) (byte2 v) (byte3 v) =
      { raw := v.extractLsb' 8 16, res := .bits16, chidv := chidEn,
        chid := if chidEn then v.extractLsb' 4 4 else 0 } := by
  rw [decodeFrame20, if_neg hosr, pairFrame_bytes, byte3, extractLsb'_extractLsb' v (by decide)]

end Received

/-- Settles O50: a receive row decodes the bytes of its layout, whose fields are read back from where they were
placed. -/
theorem receiveRowsDecodeTheirFrame : Obligations.ReceiveRowsDecodeTheirFrame := by
  unfold Obligations.ReceiveRowsDecodeTheirFrame
  intro s
  refine ⟨fun hfam hosr code nib ignored => ?_, fun hfam hosr code nib ignored => ?_, fun hfam ignored code => ?_⟩
  · obtain ⟨hcode, hnib, -⟩ := layout12_read code nib ignored
    have hframe := decodeFrame20_bytes12 hosr s.chidEn (layout12 code nib ignored)
    rw [hcode, hnib] at hframe
    exact (exec_eq_wireBody rfl (by rw [hfam]; rfl)).trans
      (congrArg (fun fr => Host.Outcome.next (latchFrame fr (latchRx _ s))) hframe)
  · obtain ⟨hcode, hnib, -⟩ := layout16_read code nib ignored
    have hframe := decodeFrame20_bytes16 hosr s.chidEn (layout16 code nib ignored)
    rw [hcode, hnib] at hframe
    exact (exec_eq_wireBody rfl (by rw [hfam]; rfl)).trans
      (congrArg (fun fr => Host.Outcome.next (latchFrame fr (latchRx _ s))) hframe)
  · obtain ⟨-, hcode⟩ := layout24_read ignored code
    have hframe : decodeFrame24 (rxFrame (frameBytes (layout24 ignored code))) =
        { raw := code.signExtend 16, res := .bits12, chidv := false, chid := 0 } := by
      rw [rxFrame_frameBytes, decodeFrame24, hcode, signExt24_eq_signExtend]
    exact (exec_eq_wireBody rfl (by rw [hfam]; rfl)).trans
      (congrArg (fun fr => Host.Outcome.next (latchFrame fr (latchRx _ s))) hframe)

/-- Settles O54: the frame's first two bytes are its high 16 bits, and a field is a quotient of the number. -/
theorem frame20FollowsItsLayout : Obligations.Frame20FollowsItsLayout := by
  unfold Obligations.Frame20FollowsItsLayout
  intro osr chidEn r1 r2 r3
  have hr2 := r2.isLt
  have hr3 := r3.isLt
  have hpair := toNat_pairFrame r1 r2
  refine ⟨decodeFrame20_chidv .., fun hchidEn => ?_, fun hosr => ?_, fun hosr => ?_⟩
  · exact decodeFrame20_chid_eq_zero _ _ _ _ _ ((decodeFrame20_chidv ..).trans hchidEn)
  · rw [decodeFrame20, if_pos hosr]
    refine ⟨rfl, ?_, fun hchidEn => ?_⟩
    · rw [BitVec.toNat_ushiftRight, hpair, Nat.shiftRight_eq_div_pow]
      omega
    · rw [if_pos hchidEn, BitVec.extractLsb'_toNat, hpair, Nat.shiftRight_zero]
      omega
  · rw [decodeFrame20, if_neg hosr]
    refine ⟨rfl, ?_, fun hchidEn => ?_⟩
    · rw [hpair]
      omega
    · rw [if_pos hchidEn, BitVec.extractLsb'_toNat, Nat.shiftRight_eq_div_pow]
      omega

/-- Settles O55: the low 12 bits of the pair are the code, and SignExt24 keeps its value. -/
theorem frame24SignExtendsTheLowTwelveBits : Obligations.Frame24SignExtendsTheLowTwelveBits := by
  unfold Obligations.Frame24SignExtendsTheLowTwelveBits
  intro r1 r2
  refine ⟨?_, rfl, rfl, rfl⟩
  have hcode : ((pairFrame r1 r2).extractLsb' 0 12).toNat = (r1.toNat * 256 + r2.toNat) % 4096 := by
    rw [BitVec.extractLsb'_toNat, toNat_pairFrame, Nat.shiftRight_zero]
  rw [decodeFrame24, toInt_signExt24, BitVec.toInt_eq_toNat_cond, hcode]
  split <;> split <;> omega

/-! ### Packings and host reads (R89, R90, R21) -/

theorem packResponse_read (st : BitVec 3) (r : Word) (n : Byte) :
    (packResponse st r n).extractLsb' 0 32 = r ∧ (packResponse st r n).extractLsb' 32 8 = n ∧
      (packResponse st r n).extractLsb' 40 3 = st ∧ (packResponse st r n).extractLsb' 43 21 = 0#21 := by
  simp (disch := omega) [packResponse, BitVec.extractLsb'_or, extractLsb'_place, extractLsb'_place_above,
    extractLsb'_past]

theorem packSample_read (r : Sample) :
    (packSample r).extractLsb' 0 32 = r.mv ∧ (packSample r).extractLsb' 32 16 = r.raw ∧
      (packSample r).extractLsb' 48 1 = r.res.bit ∧ (packSample r).extractLsb' 49 1 = BitVec.ofBool r.chidv ∧
      (packSample r).extractLsb' 50 4 = r.chid ∧ (packSample r).extractLsb' 54 8 = r.seqIdx ∧
      (packSample r).extractLsb' 62 2 = 0#2 := by
  simp (disch := omega) [packSample, BitVec.extractLsb'_or, extractLsb'_place, extractLsb'_place_above,
    extractLsb'_past]

/-- A flag as the host reads it. -/
theorem setWidth_ofBool (b : Bool) : (BitVec.ofBool b).setWidth 32 = if b then 1#32 else 0#32 := by
  cases b <;> rfl

/-- Settles O56: a packing is placed fields, each read back from its place; and an idle block answers each read with
its register, STATUS and ST by their codes. -/
theorem packedWordsHoldTheirFields : Obligations.PackedWordsHoldTheirFields := by
  unfold Obligations.PackedWordsHoldTheirFields
  refine ⟨packResponse_read, fun r => ?_, fun s hbusy => ?_⟩
  · obtain ⟨hmv, hraw, hres, hchidv, hchid, hidx, hzero⟩ := packSample_read r
    refine ⟨hmv, hraw, ?_, ?_, hchid, hidx, hzero⟩
    · rw [BitVec.getLsbD_eq_extractLsb', hres]
      cases r.res <;> rfl
    · rw [BitVec.getLsbD_eq_extractLsb', hchidv]
      cases r.chidv <;> rfl
  · refine ⟨?response, ?status, ?st, ?_, ?_, ?_, ?_, ?res, ?_, ?_, ?_, ?_, ?_⟩
    case response =>
      rw [hostResponse, hbusy]
      cases s.status <;> rfl
    case status =>
      rw [hostRead, hbusy]
      cases s.status <;> rfl
    case st =>
      rw [hostRead, hbusy]
      cases s.st <;> rfl
    case res =>
      rw [hostRead, hbusy]
      cases s.res <;> rfl
    all_goals simp [hostRead, hbusy, setWidth_ofBool]

end Sys2Proof.Machine
